-- ==== Sys2Proof/Word.lean ====
section
/-! DEFINITION. The byte, text, the numbers of ports and bridges, and the two small fixed-size containers (one
entry for each of four ports, one for each of two bridges). -/

namespace Sys2Proof

/-- One byte of a serial line (11 R197 to R201). -/
abbrev Byte := BitVec 8

/-- Characters as the lines carry them and the header store and receipts hold them. -/
abbrev Text := List Byte

/-- A console port, its till and its paired printer port (00 section 4.3). -/
abbrev Port := Fin 4

/-- A bridge, that is a weigh link (00 section 4.3). -/
abbrev BridgeId := Fin 2

/-- The characters of a literal. -/
def txt (s : String) : Text := s.toList.map fun c => BitVec.ofNat 8 c.toNat

/-- One entry for each port 0 to 3. -/
structure Four (α : Type) where
  c0 : α
  c1 : α
  c2 : α
  c3 : α
deriving DecidableEq, Repr

/-- The entry of port `i`. -/
def Four.get {α : Type} (f : Four α) (i : Port) : α :=
  match i with
  | 0 => f.c0
  | 1 => f.c1
  | 2 => f.c2
  | 3 => f.c3

/-- `f` with the entry of port `i` replaced by `a`. -/
def Four.set {α : Type} (f : Four α) (i : Port) (a : α) : Four α :=
  match i with
  | 0 => { f with c0 := a }
  | 1 => { f with c1 := a }
  | 2 => { f with c2 := a }
  | 3 => { f with c3 := a }

/-- Every entry computed from its port. -/
def Four.ofFn {α : Type} (g : Port → α) : Four α := ⟨g 0, g 1, g 2, g 3⟩

/-- The entries in port order. -/
def Four.toList {α : Type} (f : Four α) : List α := [f.c0, f.c1, f.c2, f.c3]

/-- One entry for each bridge 0 and 1. -/
structure Pair (α : Type) where
  b0 : α
  b1 : α
deriving DecidableEq, Repr

/-- The entry of bridge `i`. -/
def Pair.get {α : Type} (f : Pair α) (i : BridgeId) : α :=
  match i with
  | 0 => f.b0
  | 1 => f.b1

/-- `f` with the entry of bridge `i` replaced by `a`. -/
def Pair.set {α : Type} (f : Pair α) (i : BridgeId) (a : α) : Pair α :=
  match i with
  | 0 => { f with b0 := a }
  | 1 => { f with b1 := a }

/-- Both entries computed from their bridge. -/
def Pair.ofFn {α : Type} (g : BridgeId → α) : Pair α := ⟨g 0, g 1⟩

/-- The entries in bridge order. -/
def Pair.toList {α : Type} (f : Pair α) : List α := [f.b0, f.b1]

end Sys2Proof
end

