-- ==== Sys2Proof/Config.lean ====
section
/-! DEFINITION. The sizes and bounds the manual fixes for the part, and the one free value of the model. -/

namespace Sys2Proof.Config

/-- Slots of the ticket table (02 R22). -/
abbrev slots : Nat := 64

/-- Entries of the grade table (03 R46). -/
abbrev gradeEntries : Nat := 40

/-- Positions of the vehicle tare table (03 R55). -/
abbrev tarePositions : Nat := 96

/-- Entries of the seller cash map (05 R106). -/
abbrev sellerEntries : Nat := 128

/-- Jobs a print queue holds (07 R131). -/
abbrev queuePlaces : Nat := 8

/-- Places of a console port's answer queue (10 R180). -/
abbrev answerPlaces : Nat := 4

/-- Entries of the journal ring (08 R151). -/
abbrev journalEntries : Nat := 256

/-- Header lines and the cells of each (06 R112). -/
abbrev headerLines : Nat := 6
/-- Cells of a header line (06 R112). -/
abbrev headerCells : Nat := 48

/-- The value at which every till and total counter stops (05 R99, 08 R157). -/
abbrev counterMax : Nat := 999999999999

/-- The largest ticket number and seller id (02 R22, R23). -/
abbrev numberMax : Nat := 999999

/-- The largest receipt serial (08 R150). -/
abbrev serialMax : Nat := 99999999

/-- The largest float, load, cash ceiling and seller daily cap (05 R86, R100, R101). -/
abbrev moneyMax : Nat := 99999999

/-- The largest weight of a ticket and the largest manual deduction, kg (02 R24). -/
abbrev weightMax : Nat := 200000

/-- The largest steady count (01 R2). -/
abbrev steadyMax : Nat := 16

/-- The largest restart count (07 R131). -/
abbrev restartMax : Nat := 255

/-- FREE VALUE (DESIGN CHOICE, log 11): the value of the flag in a SET-GRADE answer when the entry was EMPTY before;
a redefined entry carries the other value. 03 R48 says that the flag tells the two apart and not which is 01h. -/
opaque setGradeFlagWhenEmpty : Bool

end Sys2Proof.Config
end

