-- ==== Sys2Proof/Syntax.lean ====
section
/-! DEFINITION. The commands of the part, one constructor of `Instr` for each row of spec/opcode_table.json, and
the values they and the records carry: dates, the named choices of 11 R198 and R199, and decoded requests. -/

namespace Sys2Proof

/-- A calendar date (00 section 4.1). -/
structure Date where
  year  : Nat
  month : Nat
  day   : Nat
deriving DecidableEq, Repr

/-- A time of day to the second (00 section 4.1). -/
structure TimeOfDay where
  hour   : Nat
  minute : Nat
  second : Nat
deriving DecidableEq, Repr

/-- A date and time, as the clock holds it and a time stamp copies it (09 R168, R171). -/
structure Stamp where
  date : Date
  time : TimeOfDay
deriving DecidableEq, Repr

/-- The role of a console port (10 R181), numbered as R199 numbers it. -/
inductive Role where
  | off | weigh | pay | office
deriving DecidableEq, Repr

/-- The two beams of a bridge (01 R2). -/
inductive BeamEnd where
  | entry | exit
deriving DecidableEq, Repr

/-- The fault bytes of a printer (07 R129). -/
inductive FaultReason where
  | noPaper | coverOpen | headHot
deriving DecidableEq, Repr

/-- What asserts the main reset (11 R202). -/
inductive ResetCause where
  | resetN   -- RESET_N low
  | vcore    -- the core supply monitor reports VCORE out of range
deriving DecidableEq, Repr

/-- The levels of the pins that the release of main reset reads (01 R2, 11 R204); `true` is high. A console's two
straps are CSTRAPkA and CSTRAPkB. -/
structure ReleasePins where
  consoleStraps : Four (Bool × Bool)
  printerStraps : Four Bool
  entryBeams    : Pair Bool
  exitBeams     : Pair Bool
deriving DecidableEq, Repr

/-- The method of a payment (05 R86). -/
inductive Method where
  | cash | voucher
deriving DecidableEq, Repr

/-- The part of a ticket that QUERY-TICKET asks for (02 R44). -/
inductive TicketPart where
  | summary | weighings | lines
deriving DecidableEq, Repr

/-- The states of a non-FREE ticket (02 R22). -/
inductive TicketState where
  | loaded | settled | held | paid | void
deriving DecidableEq, Repr

/-- A bridge configuration (01 R1). -/
structure BridgeConfig where
  capacity      : Nat   -- Max, kg
  division      : Nat   -- d, kg
  band          : Nat   -- divisions
  target        : Nat   -- steady target S
  divider       : Nat   -- sample divider p
  motionTimeout : Nat   -- s
  staleTimeout  : Nat   -- ms
  positionCheck : Bool
deriving DecidableEq, Repr

/-- The definition a grade entry carries (03 R46). -/
structure GradeDef where
  code       : Nat
  name       : Text
  price      : Nat          -- price units per kg
  perMille   : Nat
  restricted : Bool
  holdDays   : Option Nat
deriving DecidableEq, Repr

/-- The payout limits (05 R86). -/
structure Limits where
  ceiling : Nat
  cap     : Nat
  step    : Nat
deriving DecidableEq, Repr

/-- OPEN-TICKET (02 R28). -/
structure OpenTicketReq where
  bridge  : BridgeId
  vehicle : Option Text
  seller  : Option Nat
deriving DecidableEq, Repr

/-- WEIGH-DROP and WEIGH-TARE (02 R31). -/
structure WeighReq where
  ticket : Nat
  bridge : BridgeId
  code   : Nat
  manual : Option Nat
deriving DecidableEq, Repr

/-- STORE-TARE (01 R13). -/
structure StoreTareReq where
  bridge  : BridgeId
  vehicle : Text
deriving DecidableEq, Repr

/-- APPLY-STORED-TARE (03 R57). -/
structure ApplyTareReq where
  ticket : Nat
  code   : Nat
  manual : Option Nat
deriving DecidableEq, Repr

/-- SET-DEDUCTION; an absent manual deduction is "clear" (04 R78, 11 R198). -/
structure SetDeductionReq where
  ticket : Nat
  line   : Nat
  manual : Option Nat
deriving DecidableEq, Repr

/-- SET-PARTY (02 R39). -/
structure SetPartyReq where
  ticket  : Nat
  vehicle : Option Text
  seller  : Option Nat
deriving DecidableEq, Repr

/-- PAY (05 R87). -/
structure PayReq where
  ticket : Nat
  method : Method
deriving DecidableEq, Repr

/-- SET-GRADE (03 R48). -/
structure SetGradeReq where
  index : Nat
  grade : GradeDef
deriving DecidableEq, Repr

/-- SET-BRIDGE (01 R20). -/
structure SetBridgeReq where
  bridge : BridgeId
  config : BridgeConfig
deriving DecidableEq, Repr

/-- SET-HEADER-LINE (06 R113). -/
structure SetHeaderLineReq where
  line : Nat
  text : Text
deriving DecidableEq, Repr

/-- SET-HEADER-CELL (06 R114). -/
structure SetHeaderCellReq where
  line   : Nat
  column : Nat
  char   : Byte
deriving DecidableEq, Repr

/-- SET-PRINTER (07 R144). -/
structure SetPrinterReq where
  port    : Port
  width   : Nat
  timeout : Nat
deriving DecidableEq, Repr

/-- QUERY-TICKET (02 R44). -/
structure QueryTicketReq where
  ticket : Nat
  part   : TicketPart
deriving DecidableEq, Repr

/-- LIST-TICKETS; no filter is ANY (02 R45). -/
structure ListTicketsReq where
  filter : Option TicketState
  after  : Nat
deriving DecidableEq, Repr

/-- QUERY-GRADE (03 R54). -/
inductive QueryGradeReq where
  | code (code : Nat)
  | index (index : Nat)
deriving DecidableEq, Repr

/-- QUERY-TARE (03 R61). -/
inductive QueryTareReq where
  | exact (vehicle : Text)
  | after (vehicle : Text)
deriving DecidableEq, Repr

/-- QUERY-JOURNAL (08 R165). -/
inductive QueryJournalReq where
  | serial (serial : Nat)
  | newest
deriving DecidableEq, Repr

/-- QUERY-TOTALS (08 R166). -/
inductive QueryTotalsReq where
  | day (start : Nat)
  | grand
deriving DecidableEq, Repr

/-- The commands, one for each row of spec/opcode_table.json.

A request row carries the console port that took the frame and the FIELD BYTES of the frame, those that follow the
class byte (11 R198): a complete frame whose check is good (log 5). They are decoded by `Decode`. -/
inductive Instr where
  | abort           (port : Port) (fields : List Byte)
  | queryStatus     (port : Port) (fields : List Byte)
  | openTicket      (port : Port) (fields : List Byte)
  | weighDrop       (port : Port) (fields : List Byte)
  | weighTare       (port : Port) (fields : List Byte)
  | storeTare       (port : Port) (fields : List Byte)
  | applyStoredTare (port : Port) (fields : List Byte)
  | zero            (port : Port) (fields : List Byte)
  | setDeduction    (port : Port) (fields : List Byte)
  | setParty        (port : Port) (fields : List Byte)
  | openTill        (port : Port) (fields : List Byte)
  | loadCash        (port : Port) (fields : List Byte)
  | closeTill       (port : Port) (fields : List Byte)
  | pay             (port : Port) (fields : List Byte)
  | forceCloseTill  (port : Port) (fields : List Byte)
  | setPayoutLimits (port : Port) (fields : List Byte)
  | setGrade        (port : Port) (fields : List Byte)
  | removeGrade     (port : Port) (fields : List Byte)
  | deleteTare      (port : Port) (fields : List Byte)
  | setTareValidity (port : Port) (fields : List Byte)
  | setBridge       (port : Port) (fields : List Byte)
  | setHeaderLine   (port : Port) (fields : List Byte)
  | setHeaderCell   (port : Port) (fields : List Byte)
  | setPrinter      (port : Port) (fields : List Byte)
  | setClock        (port : Port) (fields : List Byte)
  | alignMinute     (port : Port) (fields : List Byte)
  | voidTicket      (port : Port) (fields : List Byte)
  | dayClose        (port : Port) (fields : List Byte)
  | copy            (port : Port) (fields : List Byte)
  | discardJob      (port : Port) (fields : List Byte)
  | queryTicket     (port : Port) (fields : List Byte)
  | listTickets     (port : Port) (fields : List Byte)
  | queryBridge     (port : Port) (fields : List Byte)
  | queryGrade      (port : Port) (fields : List Byte)
  | queryTare       (port : Port) (fields : List Byte)
  | queryTill       (port : Port) (fields : List Byte)
  | queryPrinter    (port : Port) (fields : List Byte)
  | queryJournal    (port : Port) (fields : List Byte)
  | queryTotals     (port : Port) (fields : List Byte)
  /-- A complete console frame whose check fails, with its class byte (10 R187 step 1). -/
  | badFrame (port : Port) (cls : Byte)
  /-- A complete console frame whose class byte names no request (10 R187 step 2). -/
  | badClass (port : Port) (cls : Byte)
  /-- The inter-byte timer of a console receiver expires (10 R184). -/
  | interByteTimeout (port : Port)
  /-- A break or a framing error on a console receive line (10 R185). -/
  | breakCondition (port : Port)
  /-- The last byte of a port's oldest answer has been sent (10 R194). -/
  | answerTransmitted (port : Port)
  /-- A good indicator frame, with its raw weight and status byte (01 R3, 11 R200). -/
  | sampleEvent (bridge : BridgeId) (raw : BitVec 24) (status : Byte)
  /-- A complete indicator frame whose check fails (01 R3). -/
  | badSampleFrame (bridge : BridgeId)
  /-- A gap, a framing error or a break on the indicator line (11 R200). -/
  | sampleGapTimeout (bridge : BridgeId)
  /-- The stale timer of a weigh link expires (01 R4). -/
  | staleTimerExpiry (bridge : BridgeId)
  /-- The level of a beam input, `true` for high, after a change (01 R8). -/
  | beamEvent (bridge : BridgeId) (which : BeamEnd) (high : Bool)
  /-- The motion deadline of a pending weighing expires (01 R17). -/
  | motionDeadline (bridge : BridgeId)
  /-- A READY byte from a printer (07 R129). -/
  | statusReady (port : Port)
  /-- A DONE byte from a printer (07 R135). -/
  | statusDone (port : Port)
  /-- A BUSY byte from a printer (07 R135). -/
  | statusBusy (port : Port)
  /-- A fault byte from a printer (07 R140). -/
  | faultByte (port : Port) (reason : FaultReason)
  /-- The line timer of a printer port expires (07 R130). -/
  | lineTimerExpiry (port : Port)
  /-- A printer port starts its head job (07 R134). -/
  | jobStart (port : Port)
  /-- One second has elapsed (09 R169). -/
  | secondBoundary
  /-- The main reset is asserted (11 R202). -/
  | mainReset (cause : ResetCause)
  /-- The main reset is released, with the pins as they then stand (11 R202, R204). -/
  | mainResetRelease (pins : ReleasePins)
  /-- Backup-domain power rises from below its retention level (11 R203). -/
  | backupPowerOnReset
  /-- A byte taken by a console receiver (10 R182, R183). -/
  | consoleReceivedByte (port : Port) (byte : Byte)
  /-- A byte taken by an indicator sample receiver (11 R200). -/
  | indicatorReceivedByte (bridge : BridgeId) (byte : Byte)
deriving DecidableEq, Repr

end Sys2Proof
end

