-- ==== Sys2Proof/Machine/Calendar.lean ====
section
/-! DEFINITION. The calendar: lengths of months, the carry of a second and a minute, the comparison of dates and
the addition of days (09 R169, R172, R173, R176). -/

namespace Sys2Proof.Machine

/-- 09 R169: every year divisible by 4 from 2000 to 2099 is a leap year. -/
def leapYear (year : Nat) : Bool := year % 4 == 0

/-- 09 R169: the length of a month. -/
def monthLength (year month : Nat) : Nat :=
  if month = 2 then (if leapYear year then 29 else 28)
  else if month = 4 ∨ month = 6 ∨ month = 9 ∨ month = 11 then 30
  else 31

/-- A real date of 2000 to 2099 (09 R168, R174 step 2). -/
def dateValid (d : Date) : Bool :=
  decide (2000 ≤ d.year ∧ d.year ≤ 2099 ∧ 1 ≤ d.month ∧ d.month ≤ 12 ∧ 1 ≤ d.day ∧ d.day ≤ monthLength d.year d.month)

/-- A time from 00:00:00 to 23:59:59 (09 R168, R174 step 2). -/
def timeValid (t : TimeOfDay) : Bool :=
  decide (t.hour ≤ 23 ∧ t.minute ≤ 59 ∧ t.second ≤ 59)

/-- A real date and time (09 R169: "each second boundary keeps the date a real calendar date"). -/
def stampValid (s : Stamp) : Bool := dateValid s.date && timeValid s.time

/-- The day after, with the wrap after 2099-12-31 (09 R169). -/
def nextDay (d : Date) : Date :=
  if d.day < monthLength d.year d.month then { d with day := d.day + 1 }
  else if d.month < 12 then { d with month := d.month + 1, day := 1 }
  else { year := if d.year < 2099 then d.year + 1 else 2000, month := 1, day := 1 }

/-- The hour advances, with its carry (09 R169). -/
def nextHour (s : Stamp) : Stamp :=
  if s.time.hour < 23 then { s with time := { s.time with hour := s.time.hour + 1 } }
  else { date := nextDay s.date, time := { s.time with hour := 0 } }

/-- The minute advances, with its carry (09 R169, R176). -/
def nextMinute (s : Stamp) : Stamp :=
  if s.time.minute < 59 then { s with time := { s.time with minute := s.time.minute + 1 } }
  else nextHour { s with time := { s.time with minute := 0 } }

/-- The second advances, with its carry (09 R169). -/
def nextSecond (s : Stamp) : Stamp :=
  if s.time.second < 59 then { s with time := { s.time with second := s.time.second + 1 } }
  else nextMinute { s with time := { s.time with second := 0 } }

/-- 09 R176: the whole minute nearest the reading, halves up. -/
def alignedMinute (s : Stamp) : Stamp :=
  let whole : Stamp := { s with time := { s.time with second := 0 } }
  if s.time.second < 30 then whole else nextMinute whole

/-- 09 R176: the correction of an alignment, new reading minus old, in seconds. -/
def alignCorrection (s : Stamp) : Int :=
  if s.time.second < 30 then -(s.time.second : Int) else 60 - (s.time.second : Int)

/-- The last day of the calendar, where an addition of days stops (09 R173). -/
def lastDay : Date := ⟨2099, 12, 31⟩

/-- 09 R173: `n` calendar days after `d`, stopping at 2099-12-31. -/
def addDays (d : Date) : Nat → Date
  | 0 => d
  | n + 1 => if d = lastDay then d else addDays (nextDay d) n

/-- 09 R172: `a` is before `b`, by year, then month, then day. -/
def dateBefore (a b : Date) : Bool :=
  decide (a.year < b.year ∨ (a.year = b.year ∧ (a.month < b.month ∨ (a.month = b.month ∧ a.day < b.day))))

end Sys2Proof.Machine
end

