-- ==== Sys2Proof/Decode.lean ====
section
/-! DEFINITION. Reading the bytes of the lines: the field types of 11 R197, the class table and the request bodies of
11 R198 with the ranges of the owning rules (10 R189), the sample frame (11 R200), the printer status bytes (11 R201),
and `decodeTableWord`. A decoder answers `none` exactly where 10 R189 refuses the request BAD_FIELD. -/

namespace Sys2Proof

namespace Decode

/-! ### Field types (11 R197) -/

/-- The unsigned number that bytes spell, most significant first. -/
def beValue (bs : List Byte) : Nat := bs.foldl (fun a b => a * 256 + b.toNat) 0

/-- A required unsigned field of `n` bytes, and the bytes after it. -/
def takeNum (n : Nat) (bs : List Byte) : Option (Nat × List Byte) :=
  if bs.length < n then none else some (beValue (bs.take n), bs.drop n)

/-- An optional unsigned field of `n` bytes: absent when every byte is FFh. -/
def takeOptNum (n : Nat) (bs : List Byte) : Option (Option Nat × List Byte) :=
  if bs.length < n then none
  else some (if (bs.take n).all (· == 0xFF#8) then none else some (beValue (bs.take n)), bs.drop n)

/-- A TEXT field: a length byte and that many characters. -/
def takeText (bs : List Byte) : Option (Text × List Byte) :=
  match bs with
  | [] => none
  | l :: rest => if rest.length < l.toNat then none else some (rest.take l.toNat, rest.drop l.toNat)

/-- A FLAG field: 00h no, 01h yes, and no other value. -/
def takeFlag (bs : List Byte) : Option (Bool × List Byte) :=
  match bs with
  | [] => none
  | b :: rest => if b = 0x00#8 then some (false, rest) else if b = 0x01#8 then some (true, rest) else none

/-- The bridge CHOICE: 00h bridge 0, 01h bridge 1 (11 R198). -/
def takeBridge (bs : List Byte) : Option (BridgeId × List Byte) :=
  match bs with
  | [] => none
  | b :: rest => if b = 0x00#8 then some (0, rest) else if b = 0x01#8 then some (1, rest) else none

/-- A U8 index of a till or printer port, 0 to 3 (05 R103, R107, 07 R144, R145). -/
def takePort (bs : List Byte) : Option (Port × List Byte) :=
  match bs with
  | [] => none
  | b :: rest => if h : b.toNat < 4 then some (⟨b.toNat, h⟩, rest) else none

/-- A DATE field, read as the numbers it encodes. -/
def takeDate (bs : List Byte) : Option (Date × List Byte) :=
  match bs with
  | y :: m :: d :: rest => some (⟨2000 + y.toNat, m.toNat, d.toNat⟩, rest)
  | _ => none

/-- A TIME field, read as the numbers it encodes. -/
def takeTime (bs : List Byte) : Option (TimeOfDay × List Byte) :=
  match bs with
  | h :: m :: s :: rest => some (⟨h.toNat, m.toNat, s.toNat⟩, rest)
  | _ => none

/-- The value `a`, when the body ends here and `ok` holds (10 R189: "bytes remain after the last field"). -/
def finish {α : Type} (rest : List Byte) (ok : Bool) (a : α) : Option α :=
  if rest.isEmpty && ok then some a else none

/-! ### Ranges shared by several requests -/

/-- A ticket number or seller id, 1 to 999,999 (02 R23, R26). -/
def numberOk (n : Nat) : Bool := decide (1 ≤ n ∧ n ≤ Config.numberMax)

/-- A grade code, 1 to 9,999 (03 R46). -/
def gradeCodeOk (n : Nat) : Bool := decide (1 ≤ n ∧ n ≤ 9999)

/-- A manual deduction, absent or 0 to 200,000 kg (02 R24). -/
def manualOk (m : Option Nat) : Bool := m.all fun n => decide (n ≤ Config.weightMax)

/-- A character of a vehicle id: A to Z, 0 to 9 or "-" (02 R23). -/
def vehicleChar (b : Byte) : Bool :=
  decide ((0x41 ≤ b.toNat ∧ b.toNat ≤ 0x5A) ∨ (0x30 ≤ b.toNat ∧ b.toNat ≤ 0x39) ∨ b.toNat = 0x2D)

/-- A vehicle id: 1 to 10 of those characters (02 R23). -/
def vehicleOk (v : Text) : Bool := decide (1 ≤ v.length ∧ v.length ≤ 10) && v.all vehicleChar

/-- A character from 20h to 7Eh. -/
def printable (b : Byte) : Bool := decide (0x20 ≤ b.toNat ∧ b.toNat ≤ 0x7E)

/-- An optional vehicle id: a TEXT of length 0 is absent (11 R197). -/
def takeOptVehicle (bs : List Byte) : Option (Option Text × List Byte) :=
  match takeText bs with
  | none => none
  | some (v, rest) => if v.isEmpty then some (none, rest) else if vehicleOk v then some (some v, rest) else none

/-! ### Request bodies (11 R198) -/

/-- A request with no fields: ABORT, QUERY-STATUS, ALIGN-MINUTE, DAY-CLOSE, DISCARD-JOB. -/
def noFields (bs : List Byte) : Option Unit := finish bs true ()

/-- 10h OPEN-TICKET; 01 R13 step 2. -/
def openTicket (bs : List Byte) : Option OpenTicketReq := do
  let (bridge, bs) ← takeBridge bs
  let (vehicle, bs) ← takeOptVehicle bs
  let (seller, bs) ← takeOptNum 3 bs
  finish bs (seller.all numberOk) ⟨bridge, vehicle, seller⟩

/-- 11h WEIGH-DROP and 12h WEIGH-TARE; 01 R13 step 2. -/
def weigh (bs : List Byte) : Option WeighReq := do
  let (ticket, bs) ← takeNum 3 bs
  let (bridge, bs) ← takeBridge bs
  let (code, bs) ← takeNum 2 bs
  let (manual, bs) ← takeOptNum 3 bs
  finish bs (numberOk ticket && gradeCodeOk code && manualOk manual) ⟨ticket, bridge, code, manual⟩

/-- 13h STORE-TARE; 01 R13 step 2. -/
def storeTare (bs : List Byte) : Option StoreTareReq := do
  let (bridge, bs) ← takeBridge bs
  let (vehicle, bs) ← takeText bs
  finish bs (vehicleOk vehicle) ⟨bridge, vehicle⟩

/-- 14h APPLY-STORED-TARE; 03 R57 step 2. -/
def applyTare (bs : List Byte) : Option ApplyTareReq := do
  let (ticket, bs) ← takeNum 3 bs
  let (code, bs) ← takeNum 2 bs
  let (manual, bs) ← takeOptNum 3 bs
  finish bs (numberOk ticket && gradeCodeOk code && manualOk manual) ⟨ticket, code, manual⟩

/-- 15h ZERO and 52h QUERY-BRIDGE. -/
def bridgeOnly (bs : List Byte) : Option BridgeId := do
  let (bridge, bs) ← takeBridge bs
  finish bs true bridge

/-- 16h SET-DEDUCTION; 04 R78 step 2. -/
def setDeduction (bs : List Byte) : Option SetDeductionReq := do
  let (ticket, bs) ← takeNum 3 bs
  let (line, bs) ← takeNum 1 bs
  let (manual, bs) ← takeOptNum 3 bs
  finish bs (numberOk ticket && decide (1 ≤ line ∧ line ≤ 7) && manualOk manual) ⟨ticket, line, manual⟩

/-- 17h SET-PARTY; 02 R39 step 2. -/
def setParty (bs : List Byte) : Option SetPartyReq := do
  let (ticket, bs) ← takeNum 3 bs
  let (vehicle, bs) ← takeOptVehicle bs
  let (seller, bs) ← takeOptNum 3 bs
  finish bs (numberOk ticket && seller.all numberOk && (vehicle.isSome || seller.isSome)) ⟨ticket, vehicle, seller⟩

/-- 20h OPEN-TILL; 05 R100. -/
def openTill (bs : List Byte) : Option Nat := do
  let (float, bs) ← takeNum 4 bs
  finish bs (decide (float ≤ Config.moneyMax)) float

/-- 21h LOAD-CASH; 05 R101. -/
def loadCash (bs : List Byte) : Option Nat := do
  let (amount, bs) ← takeNum 4 bs
  finish bs (decide (1 ≤ amount ∧ amount ≤ Config.moneyMax)) amount

/-- 22h CLOSE-TILL; 05 R102. -/
def closeTill (bs : List Byte) : Option Nat := do
  let (counted, bs) ← takeNum 5 bs
  finish bs (decide (counted ≤ Config.counterMax)) counted

/-- 23h PAY; 05 R87. -/
def pay (bs : List Byte) : Option PayReq := do
  let (ticket, bs) ← takeNum 3 bs
  let (method, bs) ← takeNum 1 bs
  if method = 0 then finish bs (numberOk ticket) ⟨ticket, .cash⟩
  else if method = 1 then finish bs (numberOk ticket) ⟨ticket, .voucher⟩
  else none

/-- 24h FORCE-CLOSE-TILL, 55h QUERY-TILL and 56h QUERY-PRINTER: one index 0 to 3. -/
def portOnly (bs : List Byte) : Option Port := do
  let (port, bs) ← takePort bs
  finish bs true port

/-- 25h SET-PAYOUT-LIMITS; 05 R86. -/
def setPayoutLimits (bs : List Byte) : Option Limits := do
  let (ceiling, bs) ← takeNum 4 bs
  let (cap, bs) ← takeNum 4 bs
  let (step, bs) ← takeNum 1 bs
  finish bs (decide (ceiling ≤ Config.moneyMax) && decide (cap ≤ Config.moneyMax)
    && [1, 2, 5, 10, 20, 25, 50, 100].contains step) ⟨ceiling, cap, step⟩

/-- 30h SET-GRADE; 03 R48 step 2. -/
def setGrade (bs : List Byte) : Option SetGradeReq := do
  let (index, bs) ← takeNum 1 bs
  let (code, bs) ← takeNum 2 bs
  let (name, bs) ← takeText bs
  let (price, bs) ← takeNum 3 bs
  let (perMille, bs) ← takeNum 2 bs
  let (restricted, bs) ← takeFlag bs
  let (holdDays, bs) ← takeOptNum 1 bs
  finish bs (decide (index < Config.gradeEntries) && gradeCodeOk code
    && decide (1 ≤ name.length ∧ name.length ≤ 16) && name.all printable
    && decide (price ≤ 999999) && decide (perMille ≤ 500)
    && (if restricted then holdDays.any (fun n => decide (1 ≤ n ∧ n ≤ 30)) else holdDays.isNone))
    ⟨index, ⟨code, name, price, perMille, restricted, holdDays⟩⟩

/-- 31h REMOVE-GRADE; 03 R51 step 2. -/
def removeGrade (bs : List Byte) : Option Nat := do
  let (code, bs) ← takeNum 2 bs
  finish bs (gradeCodeOk code) code

/-- 32h DELETE-TARE; 03 R62. -/
def deleteTare (bs : List Byte) : Option Text := do
  let (vehicle, bs) ← takeText bs
  finish bs (vehicleOk vehicle) vehicle

/-- 33h SET-TARE-VALIDITY; 03 R62. -/
def setTareValidity (bs : List Byte) : Option Nat := do
  let (days, bs) ← takeNum 2 bs
  finish bs (decide (1 ≤ days ∧ days ≤ 365)) days

/-- A configuration with every field in its range (01 R1, R20 step 2). -/
def bridgeConfigOk (c : BridgeConfig) : Bool :=
  decide (1000 ≤ c.capacity ∧ c.capacity ≤ 200000) && [1, 2, 5, 10, 20, 50].contains c.division
  && decide (1 ≤ c.band ∧ c.band ≤ 5) && decide (2 ≤ c.target ∧ c.target ≤ 16) && [1, 2, 4, 8].contains c.divider
  && decide (2 ≤ c.motionTimeout ∧ c.motionTimeout ≤ 60)
  && decide (200 ≤ c.staleTimeout ∧ c.staleTimeout ≤ 5000 ∧ c.staleTimeout % 100 = 0)
  && decide (c.capacity % c.division = 0 ∧ 100 ≤ c.capacity / c.division ∧ c.capacity / c.division ≤ 10000)

/-- 34h SET-BRIDGE; 01 R20. -/
def setBridge (bs : List Byte) : Option SetBridgeReq := do
  let (bridge, bs) ← takeBridge bs
  let (capacity, bs) ← takeNum 3 bs
  let (division, bs) ← takeNum 1 bs
  let (band, bs) ← takeNum 1 bs
  let (target, bs) ← takeNum 1 bs
  let (divider, bs) ← takeNum 1 bs
  let (motionTimeout, bs) ← takeNum 1 bs
  let (staleTimeout, bs) ← takeNum 2 bs
  let (positionCheck, bs) ← takeFlag bs
  let config : BridgeConfig := ⟨capacity, division, band, target, divider, motionTimeout, staleTimeout, positionCheck⟩
  finish bs (bridgeConfigOk config) ⟨bridge, config⟩

/-- 35h SET-HEADER-LINE: a text of any length and any characters (06 R113). -/
def setHeaderLine (bs : List Byte) : Option SetHeaderLineReq := do
  let (line, bs) ← takeNum 1 bs
  let (text, bs) ← takeText bs
  finish bs (decide (line < Config.headerLines)) ⟨line, text⟩

/-- 36h SET-HEADER-CELL; 06 R114. -/
def setHeaderCell (bs : List Byte) : Option SetHeaderCellReq :=
  match bs with
  | [line, column, char] =>
    if line.toNat < Config.headerLines ∧ column.toNat < Config.headerCells
    then some ⟨line.toNat, column.toNat, char⟩ else none
  | _ => none

/-- 37h SET-PRINTER; 07 R144. -/
def setPrinter (bs : List Byte) : Option SetPrinterReq := do
  let (port, bs) ← takePort bs
  let (width, bs) ← takeNum 1 bs
  let (timeout, bs) ← takeNum 1 bs
  finish bs ([32, 40, 48].contains width && decide (1 ≤ timeout ∧ timeout ≤ 10)) ⟨port, width, timeout⟩

/-- 38h SET-CLOCK; 09 R174. -/
def setClock (bs : List Byte) : Option Stamp := do
  let (date, bs) ← takeDate bs
  let (time, bs) ← takeTime bs
  finish bs (Machine.stampValid ⟨date, time⟩) ⟨date, time⟩

/-- 3Ah VOID-TICKET and 40h COPY: one ticket number. -/
def ticketOnly (bs : List Byte) : Option Nat := do
  let (ticket, bs) ← takeNum 3 bs
  finish bs (numberOk ticket) ticket

/-- 50h QUERY-TICKET; 02 R44. -/
def queryTicket (bs : List Byte) : Option QueryTicketReq := do
  let (ticket, bs) ← takeNum 3 bs
  let (part, bs) ← takeNum 1 bs
  let part ← (if part = 0 then some TicketPart.summary else if part = 1 then some TicketPart.weighings
    else if part = 2 then some TicketPart.lines else none)
  finish bs (numberOk ticket) ⟨ticket, part⟩

/-- 51h LIST-TICKETS; 02 R45. -/
def listTickets (bs : List Byte) : Option ListTicketsReq := do
  let (filter, bs) ← takeNum 1 bs
  let (after, bs) ← takeNum 3 bs
  let filter ← [none, some TicketState.loaded, some .settled, some .held, some .paid, some .void][filter]?
  finish bs (decide (after ≤ Config.numberMax)) ⟨filter, after⟩

/-- 53h QUERY-GRADE; 03 R54. -/
def queryGrade (bs : List Byte) : Option QueryGradeReq := do
  let (selector, bs) ← takeNum 1 bs
  let (value, bs) ← takeNum 2 bs
  if selector = 0 then finish bs (gradeCodeOk value) (.code value)
  else if selector = 1 then finish bs (decide (value < Config.gradeEntries)) (.index value)
  else none

/-- 54h QUERY-TARE; 03 R61: in mode NEXT the id may be empty. -/
def queryTare (bs : List Byte) : Option QueryTareReq := do
  let (mode, bs) ← takeNum 1 bs
  let (vehicle, bs) ← takeText bs
  if mode = 0 then finish bs (vehicleOk vehicle) (.exact vehicle)
  else if mode = 1 then finish bs (vehicle.isEmpty || vehicleOk vehicle) (.after vehicle)
  else none

/-- 57h QUERY-JOURNAL; 08 R165: with NEWEST the second field is carried and not read (11 R198). -/
def queryJournal (bs : List Byte) : Option QueryJournalReq := do
  let (selector, bs) ← takeNum 1 bs
  let (serial, bs) ← takeNum 4 bs
  if selector = 0 then finish bs (decide (1 ≤ serial ∧ serial ≤ Config.serialMax)) (.serial serial)
  else if selector = 1 then finish bs true .newest
  else none

/-- 58h QUERY-TOTALS; 08 R166: with GRAND the second field is carried and not read (11 R198). -/
def queryTotals (bs : List Byte) : Option QueryTotalsReq := do
  let (selector, bs) ← takeNum 1 bs
  let (start, bs) ← takeNum 1 bs
  if selector = 0 then finish bs (decide (start < Config.gradeEntries)) (.day start)
  else if selector = 1 then finish bs true .grand
  else none

/-! ### The class table (11 R198) -/

/-- The class bytes of 11 R198, each with the command its good frame is. -/
def classTable : List (Byte × (Port → List Byte → Instr)) :=
  [(0x01, .abort), (0x02, .queryStatus), (0x10, .openTicket), (0x11, .weighDrop), (0x12, .weighTare),
   (0x13, .storeTare), (0x14, .applyStoredTare), (0x15, .zero), (0x16, .setDeduction), (0x17, .setParty),
   (0x20, .openTill), (0x21, .loadCash), (0x22, .closeTill), (0x23, .pay), (0x24, .forceCloseTill)] ++
  [(0x25, .setPayoutLimits), (0x30, .setGrade), (0x31, .removeGrade), (0x32, .deleteTare), (0x33, .setTareValidity),
   (0x34, .setBridge), (0x35, .setHeaderLine), (0x36, .setHeaderCell), (0x37, .setPrinter), (0x38, .setClock),
   (0x39, .alignMinute), (0x3A, .voidTicket), (0x3B, .dayClose), (0x40, .copy), (0x41, .discardJob)] ++
  [(0x50, .queryTicket), (0x51, .listTickets), (0x52, .queryBridge), (0x53, .queryGrade), (0x54, .queryTare),
   (0x55, .queryTill), (0x56, .queryPrinter), (0x57, .queryJournal), (0x58, .queryTotals)]

/-- The command of a good frame of class `cls`; `none` where the class byte names no request. -/
def requestCommand (cls : Byte) (port : Port) (fields : List Byte) : Option Instr :=
  (classTable.find? fun row => row.1 == cls).map fun row => row.2 port fields

/-- The class byte names a request (10 R187 step 2). -/
def namesRequest (cls : Byte) : Bool := (classTable.find? fun row => row.1 == cls).isSome

/-! ### Frames (10 R183, 11 R200, R201) -/

/-- 10 R183: the check of a console frame is good when the sum of N, every body byte and the check byte is a
multiple of 256; `sum` is the running sum of N and the body. -/
def consoleCheckGood (sum : Nat) (check : Byte) : Bool := (sum + check.toNat) % 256 == 0

/-- 11 R200: the check of a sample frame is good when bytes 1 to 5 sum to a multiple of 256. -/
def sampleCheckGood (bytes : List Byte) : Bool := (bytes.foldl (fun a b => a + b.toNat) 0) % 256 == 0

/-- 11 R200: the 24-bit raw weight of the three weight bytes. -/
def rawWeight (hi mid lo : Byte) : BitVec 24 := BitVec.ofNat 24 (beValue [hi, mid, lo])

/-- 11 R201: the event of a byte received from the printer of a port; `none` for a value that is discarded
(07 R129). -/
def statusCommand (port : Port) (b : Byte) : Option Instr :=
  if b = 0x51#8 then some (.statusReady port)
  else if b = 0x52#8 then some (.statusDone port)
  else if b = 0x53#8 then some (.statusBusy port)
  else if b = 0x61#8 then some (.faultByte port .noPaper)
  else if b = 0x62#8 then some (.faultByte port .coverOpen)
  else if b = 0x63#8 then some (.faultByte port .headHot)
  else none

end Decode

/-- The command that a word spells by the bits of spec/opcode_table.json. The table gives no row any bits (its every
row has an empty field list), so no word spells a command. -/
def decodeTableWord (_nbits _w : Nat) : Option Instr := none

end Sys2Proof
end

