-- ==== Sys2Proof/Machine/State.lean ====
section
/-! DEFINITION. The state of the part as plain data, the reasons a step could stop, and the state after reset. Every
piece the manual names is a field; INVENTORY.md lists them with their rules. -/

namespace Sys2Proof.Machine

/-- Nothing raises a fault: the manual describes no event that stops the part (log 4), so there is no reason. -/
inductive Fault where
deriving DecidableEq, Repr

/-- Why a command has no meaning. -/
inductive Refusal where
  /-- Raised by no arm: every command of the table has its meaning. Safe. -/
  | notModelled (mnemonic : String)
deriving DecidableEq, Repr

/-! ### Answers -/

/-- The result codes (10 section 10.7). Their byte values are `Wire.resultCode` (11 R199). -/
inductive ResultCode where
  | done | busy | aborted | nothingToAbort | badFrame | badClass | badField | notPermitted | notFound | tableFull
  | wrongState | ticketBusy | bridgeBusy | linkDown | stale | unstable | scaleFault | overload | underload
  | loadNotLess | lineLimit | zeroRange | duplicate | gradeInUse | noVehicle | tareExpired | clockInvalid | noSeller
  | onHold | tillClosed | tillOpen | tillShort | tillsOpen | queueFull | noPrinter | noJob
deriving DecidableEq, Repr

/-- An answer frame: class echo, result code and answer fields (10 R193). -/
structure Answer where
  cls    : Byte
  result : ResultCode
  fields : List Byte
deriving DecidableEq, Repr

/-! ### Console ports (10 R180) -/

/-- The receiver of a console port, with the frame in progress: the length N, the body bytes so far and the running
sum of N and the body. -/
inductive Receiver where
  | idle
  | length
  | body (n : Nat) (bytes : List Byte) (sum : Nat)
  | check (n : Nat) (bytes : List Byte) (sum : Nat)
deriving DecidableEq, Repr

/-- A weighing request taken and not answered: its class and its bridge (10 R190). -/
structure InFlight where
  cls    : Byte
  bridge : BridgeId
deriving DecidableEq, Repr

/-- The transmitter of a console port; the position counts the bytes sent of the oldest answer (log 9). -/
inductive Transmitter where
  | idle
  | sending (position : Nat)
deriving DecidableEq, Repr

/-- A console port. -/
structure Console where
  role           : Role
  rx             : Receiver
  interByteTimer : Bool
  inFlight       : Option InFlight
  answers        : List Answer      -- oldest first
  tx             : Transmitter
  busy           : Bool             -- the BUSY output, high
deriving DecidableEq, Repr

/-! ### Weigh links (01 R2, R12, R14) -/

/-- Link states of a weigh link, numbered as 11 R199 numbers them. -/
inductive LinkState where
  | down | live | fault
deriving DecidableEq, Repr

/-- Beam states, numbered as 11 R199 numbers them. -/
inductive Beam where
  | clear | broken
deriving DecidableEq, Repr

/-- The purposes of a weighing, numbered as 11 R199 numbers them. -/
inductive Purpose where
  | gross | drop | tare | storeTare
deriving DecidableEq, Repr

/-- What a pending weighing is for, with the fields of 01 R12 that its purpose has. -/
inductive WeighTask where
  | gross (vehicle : Option Text) (seller : Option Nat)
  | drop (ticket : Nat) (grade : Nat) (manual : Option Nat)
  | tare (ticket : Nat) (grade : Nat) (manual : Option Nat)
  | storeTare (vehicle : Text)
deriving DecidableEq, Repr

/-- A pending weighing (01 R12). The motion deadline is held as the duration it was started with, s (log 3). -/
structure Weighing where
  console  : Port
  task     : WeighTask
  deadline : Nat
deriving DecidableEq, Repr

/-- The last capture record (01 R14). -/
structure Capture where
  weight  : Int
  time    : Option Stamp
  purpose : Purpose
  ticket  : Option Nat
  outcome : ResultCode
deriving DecidableEq, Repr

/-- The last good sample (01 R2). -/
structure Sample where
  raw   : Int
  fault : Bool
deriving DecidableEq, Repr

/-- The sample receiver: hunting, or collecting with the data bytes kept (11 R200). -/
inductive SampleReceiver where
  | hunting
  | collecting (bytes : List Byte)
deriving DecidableEq, Repr

/-- A weigh link: its configuration (backup domain) and its live state (main domain). -/
structure Bridge where
  config       : BridgeConfig
  link         : LinkState
  staleTimer   : Option Nat       -- running with this T_stale in ms
  latest       : Option Sample
  zeroOffset   : Int
  dividerCount : Nat
  reference    : Option Int
  steady       : Nat
  entryBeam    : Beam
  exitBeam     : Beam
  weighing     : Option Weighing
  lastCapture  : Option Capture
  rx           : SampleReceiver
deriving DecidableEq, Repr

/-! ### Tickets (02 R23, R24, 04 R64, R65, 05 R92) -/

/-- Weighing kinds, numbered as 11 R199 numbers them. -/
inductive WeighKind where
  | gross | drop | tare | storedTare
deriving DecidableEq, Repr

/-- A weighing entry of a ticket. -/
structure WeighEntry where
  kind   : WeighKind
  weight : Nat
  bridge : BridgeId
  time   : Option Stamp
deriving DecidableEq, Repr

/-- What settlement adds to a line: the bound fields (04 R64) and the computed fields (04 R65). -/
structure LineSettlement where
  price      : Nat
  perMille   : Nat
  restricted : Bool
  holdDays   : Option Nat
  deduction  : Nat
  payable    : Nat
  value      : Nat
deriving DecidableEq, Repr

/-- A line entry of a ticket. -/
structure Line where
  grade      : Nat
  net        : Nat
  manual     : Option Nat
  settlement : Option LineSettlement
deriving DecidableEq, Repr

/-- The settlement part of a ticket without its slip serial (04 R71, 06 R110). -/
structure SettlementFigures where
  time     : Option Stamp
  exact    : Nat
  amount   : Nat
  holdDays : Nat
  release  : Option Date
deriving DecidableEq, Repr

/-- The settlement part of a ticket. -/
structure Settlement where
  figures    : SettlementFigures
  slipSerial : Option Nat
deriving DecidableEq, Repr

/-- The payment part of a ticket without its receipt serial (05 R92, 06 R110). -/
structure PaymentFigures where
  till     : Port
  method   : Method
  cashPaid : Option Nat
  rounding : Option Int
  time     : Option Stamp
deriving DecidableEq, Repr

/-- The payment part of a ticket. -/
structure Payment where
  figures       : PaymentFigures
  receiptSerial : Option Nat
deriving DecidableEq, Repr

/-- The void part of a ticket (02 R40). -/
structure VoidPart where
  time : Option Stamp
deriving DecidableEq, Repr

/-- A ticket record. -/
structure Ticket where
  number     : Nat
  state      : TicketState
  pending    : Option BridgeId
  vehicle    : Option Text
  seller     : Option Nat
  opened     : Option Stamp
  weighings  : List WeighEntry
  lines      : List Line
  settlement : Option Settlement
  payment    : Option Payment
  void       : Option VoidPart
deriving DecidableEq, Repr

/-! ### Grades and tares (03 R46, R55) -/

/-- A grade entry: EMPTY when `defn` is absent. -/
structure Grade where
  defn     : Option GradeDef
  dayLines : Nat
  dayKg    : Nat
  dayValue : Nat
deriving DecidableEq, Repr

/-- An entry of the vehicle tare table. -/
structure Tare where
  vehicle : Text
  weight  : Nat
  bridge  : BridgeId
  stored  : Date
deriving DecidableEq, Repr

/-! ### Payout (05 R99, R106) -/

/-- A till record. -/
structure Till where
  isOpen         : Bool
  opened         : Option Stamp
  float          : Nat
  cashLoaded     : Nat
  cashPaid       : Nat
  rounding       : Int
  voucherCount   : Nat
  voucherAmount  : Nat
  ticketSum      : Nat
  ticketsPaid    : Nat
  counted        : Option Nat
  overShort      : Option Int
deriving DecidableEq, Repr

/-- An entry of the seller cash map. -/
structure SellerEntry where
  seller    : Nat
  cashToday : Nat
deriving DecidableEq, Repr

/-! ### Totals and journal (08 R151, R157, R159) -/

/-- The day totals. -/
structure DayTotals where
  businessDay   : Nat
  since         : Option Stamp
  storeLost     : Bool
  opened        : Nat
  settled       : Nat
  paidCash      : Nat
  paidVoucher   : Nat
  voided        : Nat
  cashTotal     : Nat
  voucherTotal  : Nat
  roundingTotal : Int
  completed     : Nat
  interrupted   : Nat
  abandoned     : Nat
deriving DecidableEq, Repr

/-- The grand totals. -/
structure GrandTotals where
  daysClosed  : Nat
  payableKg   : Nat
  amountPaid  : Nat
  completed   : Nat
  interrupted : Nat
  abandoned   : Nat
deriving DecidableEq, Repr

/-- Receipt kinds, numbered as 11 R199 numbers them. -/
inductive JobKind where
  | settleSlip | payReceipt | payVoucher | voidSlip | tillReport | dayReport | copy
deriving DecidableEq, Repr

/-- Outcomes of a journal entry, numbered as 11 R199 numbers them. -/
inductive JournalOutcome where
  | printing | complete | interrupted | abandoned
deriving DecidableEq, Repr

/-- A journal entry. -/
structure JournalEntry where
  serial   : Nat
  kind     : JobKind
  ticket   : Option Nat
  till     : Option Port
  copyOf   : Option Nat
  amount   : Option Nat
  port     : Port
  outcome  : JournalOutcome
  restarts : Nat
deriving DecidableEq, Repr

/-! ### Jobs and printer ports (06 R110, R111, 07 R127, R131) -/

/-- The settlement fields of a line in a ticket snapshot (06 R110). -/
structure SnapLineSettlement where
  price      : Nat
  restricted : Bool
  deduction  : Nat
  payable    : Nat
  value      : Nat
deriving DecidableEq, Repr

/-- A line of a ticket snapshot. -/
structure SnapLine where
  name       : Text
  net        : Nat
  manual     : Option Nat
  settlement : Option SnapLineSettlement
deriving DecidableEq, Repr

/-- A ticket snapshot (06 R110). -/
structure TicketSnap where
  number     : Nat
  state      : TicketState
  vehicle    : Option Text
  seller     : Option Nat
  opened     : Option Stamp
  weighings  : List WeighEntry
  lines      : List SnapLine
  settlement : Option SettlementFigures
  payment    : Option PaymentFigures
  void       : Option VoidPart
deriving DecidableEq, Repr

/-- A grade row of a day snapshot or a QUERY-TOTALS answer (06 R111, 08 R166). -/
structure GradeRow where
  index : Nat
  name  : Text
  lines : Nat
  kg    : Nat
  value : Nat
deriving DecidableEq, Repr

/-- The snapshot of a job (06 R110, R111): of a ticket, of a till with its expected cash, or of a day with its close
time and grade list. -/
inductive Snapshot where
  | ticket (ticket : TicketSnap)
  | till (index : Port) (till : Till) (expected : Int)
  | day (day : DayTotals) (closeTime : Option Stamp) (grades : List GradeRow)
deriving DecidableEq, Repr

/-- Job states, numbered as 11 R199 numbers them. -/
inductive JobState where
  | queued | printing | paused
deriving DecidableEq, Repr

/-- A job record (07 R131). -/
structure Job where
  kind     : JobKind
  origin   : Port
  snapshot : Snapshot
  copyOf   : Option Nat
  state    : JobState
  serial   : Option Nat
  nextLine : Option Nat
  restarts : Nat
deriving DecidableEq, Repr

/-- Port states, numbered as 11 R199 numbers them. -/
inductive PortState where
  | absent | unknown | ready | printing | late | offline | faulted
deriving DecidableEq, Repr

/-- The messages to a printer (07 R128). -/
inductive PrinterMessage where
  | line (text : Text)
  | cut
  | probe
deriving DecidableEq, Repr

/-- A printer port. `sent` is the model's own: the messages made on the transmit line since the last main reset,
oldest first (log 8). -/
structure Printer where
  present   : Bool
  state     : PortState
  fault     : Option FaultReason
  lineTimer : Option Nat            -- running with this T_line in s
  queue     : List Job              -- head first
  rendered  : Option (List Text)
  width     : Nat
  timeout   : Nat
  sent      : List PrinterMessage
deriving DecidableEq, Repr

/-! ### Clock (09 R168) -/

/-- The calendar clock. -/
structure Clock where
  now   : Stamp
  phase : Nat      -- second phase; 0 after every event that the model has (log 3)
  valid : Bool
deriving DecidableEq, Repr

/-! ### The whole part -/

/-- The state of the part, and the queue of the commands that wait to be taken. -/
structure State where
  resetByPin    : Bool                     -- main reset asserted by RESET_N
  resetBySupply : Bool                     -- main reset asserted by VCORE
  consoles      : Four Console
  bridges       : Pair Bridge
  tickets       : List (Option Ticket)     -- slots 0 to 63, FREE when absent
  ticketCounter : Nat
  grades        : List Grade               -- indexes 0 to 39
  tares         : List (Option Tare)       -- positions 0 to 95
  tareValidity  : Nat
  tills         : Four Till
  sellers       : List SellerEntry
  limits        : Limits
  header        : List Text                -- lines 0 to 5 of 48 cells
  printers      : Four Printer
  journal       : List JournalEntry        -- oldest first
  serialCounter : Nat
  openSerials   : Four (Option Nat)
  day           : DayTotals
  grand         : GrandTotals
  clock         : Clock
  pending       : List Instr               -- first in, first out
deriving DecidableEq, Repr

/-! ### Values after reset -/

/-- 01 R1: the defaults of a bridge configuration. -/
def defaultConfig : BridgeConfig := ⟨60000, 20, 1, 5, 1, 15, 1000, true⟩

/-- 01 R2: the live state of a weigh link after main reset, with the beams given. -/
def resetBridge (config : BridgeConfig) (entryBeam exitBeam : Beam) : Bridge :=
  { config, link := .down, staleTimer := none, latest := none, zeroOffset := 0, dividerCount := 0, reference := none,
    steady := 0, entryBeam, exitBeam, weighing := none, lastCapture := none, rx := .hunting }

/-- 10 R180: a console port after main reset, with its role. -/
def resetConsole (role : Role) : Console :=
  { role, rx := .idle, interByteTimer := false, inFlight := none, answers := [], tx := .idle, busy := false }

/-- 07 R146: a printer port at the release of main reset, with its presence and its kept settings. -/
def releasedPrinter (present : Bool) (width timeout : Nat) : Printer :=
  if present then
    { present, state := .unknown, fault := none, lineTimer := some timeout, queue := [], rendered := none, width, timeout,
      sent := [.probe] }
  else
    { present, state := .absent, fault := none, lineTimer := none, queue := [], rendered := none, width, timeout, sent := [] }

/-- 03 R46: an EMPTY grade entry with its day totals 0. -/
def emptyGrade : Grade := ⟨none, 0, 0, 0⟩

/-- 05 R85: a till after backup power-on reset. -/
def closedTill : Till :=
  { isOpen := false, opened := none, float := 0, cashLoaded := 0, cashPaid := 0, rounding := 0, voucherCount := 0,
    voucherAmount := 0, ticketSum := 0, ticketsPaid := 0, counted := none, overShort := none }

/-- 05 R86: the default payout limits. -/
def defaultLimits : Limits := ⟨100000, 250000, 5⟩

/-- 06 R112: the header store with every cell a space. -/
def blankHeader : List Text := List.replicate Config.headerLines (List.replicate Config.headerCells 0x20#8)

/-- 08 R157: the day totals after backup power-on reset. -/
def firstDay : DayTotals :=
  { businessDay := 1, since := none, storeLost := true, opened := 0, settled := 0, paidCash := 0, paidVoucher := 0,
    voided := 0, cashTotal := 0, voucherTotal := 0, roundingTotal := 0, completed := 0, interrupted := 0, abandoned := 0 }

/-- 08 R159: the grand totals after backup power-on reset. -/
def zeroGrand : GrandTotals := ⟨0, 0, 0, 0, 0, 0⟩

/-- 09 R168: the clock after backup power-on reset. -/
def startClock : Clock := ⟨⟨⟨2000, 1, 1⟩, ⟨0, 0, 0⟩⟩, 0, false⟩

/-- DESIGN CHOICE (log 1): the levels the board holds at the release of the first main reset: the roles of the worked
example of 02 section 2.10 (OFFICE, WEIGH, PAY, PAY), every printer present, every beam clear. -/
def resetPins : ReleasePins :=
  { consoleStraps := ⟨(true, true), (false, true), (true, false), (true, false)⟩,
    printerStraps := ⟨true, true, true, true⟩, entryBeams := ⟨true, true⟩, exitBeams := ⟨true, true⟩ }

/-- The part right after a backup power-on reset (11 R203) and the release of the main reset that comes with it
(11 R202), with the pins of `resetPins` (log 1) and nothing commanded. -/
def State.reset : State :=
  { resetByPin := false
    resetBySupply := false
    consoles := ⟨resetConsole .office, resetConsole .weigh, resetConsole .pay, resetConsole .pay⟩
    bridges := ⟨resetBridge defaultConfig .clear .clear, resetBridge defaultConfig .clear .clear⟩
    tickets := List.replicate Config.slots none
    ticketCounter := 1
    grades := List.replicate Config.gradeEntries emptyGrade
    tares := List.replicate Config.tarePositions none
    tareValidity := 90
    tills := ⟨closedTill, closedTill, closedTill, closedTill⟩
    sellers := []
    limits := defaultLimits
    header := blankHeader
    printers := ⟨releasedPrinter true 40 3, releasedPrinter true 40 3, releasedPrinter true 40 3, releasedPrinter true 40 3⟩
    journal := []
    serialCounter := 1
    openSerials := ⟨none, none, none, none⟩
    day := firstDay
    grand := zeroGrand
    clock := startClock
    pending := [] }

end Sys2Proof.Machine
end

