-- ==== Sys2Proof/Machine/Render.lean ====
section
/-! DEFINITION. The receipt composer: the line forms of 06 R116, the value formats of R117, and the layout of a receipt
and of its bodies (R118 to R123). Every function is of the job's own record, the header store, the width and the print
time, as R115 says. -/

namespace Sys2Proof.Machine

namespace Render

/-! ### Line forms (06 R116) -/

/-- `n` spaces. -/
def spaces (n : Nat) : Text := List.replicate n 0x20#8

/-- `n` characters "#". -/
def hashes (n : Nat) : Text := List.replicate n 0x23#8

/-- Trailing spaces removed. -/
def rstrip (t : Text) : Text := (t.reverse.dropWhile (· == 0x20#8)).reverse

/-- Right-aligned in `w` columns. -/
def padLeft (w : Nat) (t : Text) : Text := spaces (w - t.length) ++ t

/-- A number in a column of `w`: right-aligned, or "#" across the column when it is longer. -/
def numberCell (w : Nat) (t : Text) : Text := if t.length ≤ w then padLeft w t else hashes w

/-- A name in a column of `w`: left-aligned, cut to the column. -/
def nameCell (w : Nat) (t : Text) : Text := t.take w ++ spaces (w - t.length)

/-- A text line: from the first column, cut to `w` characters. -/
def textLine (w : Nat) (t : Text) : Text := rstrip (t.take w)

/-- A label-value line: one row when it fits, else the label, then the value alone. -/
def labelValue (w : Nat) (label value : Text) : List Text :=
  if label.length + 1 + value.length ≤ w then [rstrip (label ++ spaces (w - label.length - value.length) ++ value)]
  else [textLine w label, rstrip (numberCell w value)]

/-- A rule line. -/
def ruleLine (w : Nat) : Text := List.replicate w 0x2D#8

/-! ### Value formats (06 R117) -/

/-- Decimal digits, most significant first, at most `fuel` of them. -/
def digits : Nat → Nat → Text
  | 0, _ => []
  | fuel + 1, n => (if n < 10 then [] else digits fuel (n / 10)) ++ [BitVec.ofNat 8 (0x30 + n % 10)]

/-- A decimal number. -/
def decimal (n : Nat) : Text := digits (n.log2 + 1) n

/-- A decimal number of at least `w` digits, with leading zeros. -/
def zeroPadded (w n : Nat) : Text := List.replicate (w - (decimal n).length) 0x30#8 ++ decimal n

/-- A weight in kg. -/
def weight (n : Nat) : Text := decimal n ++ txt " kg"

/-- An amount of minor units, with "-" before a negative. -/
def money (v : Int) : Text :=
  (if v < 0 then txt "-" else []) ++ decimal (v.natAbs / 100) ++ txt "." ++ zeroPadded 2 (v.natAbs % 100)

/-- Price units to four decimals: a line value. -/
def lineValue (v : Nat) : Text := decimal (v / 10000) ++ txt "." ++ zeroPadded 4 (v % 10000)

/-- A price per kg. -/
def price (v : Nat) : Text := lineValue v ++ txt "/kg"

/-- A receipt serial, 8 digits. -/
def serialNumber (n : Nat) : Text := zeroPadded 8 n

/-- A date. -/
def date (d : Date) : Text := zeroPadded 4 d.year ++ txt "-" ++ zeroPadded 2 d.month ++ txt "-" ++ zeroPadded 2 d.day

/-- A time of day, seconds dropped. -/
def timeOfDay (t : TimeOfDay) : Text := zeroPadded 2 t.hour ++ txt ":" ++ zeroPadded 2 t.minute

/-- An absent time or date and time. -/
def noTime : Text := txt "--:--"

/-- A date and time. -/
def dateTime (s : Option Stamp) : Text :=
  match s with
  | some s => date s.date ++ txt " " ++ timeOfDay s.time
  | none => noTime

/-- The time of a time stamp. -/
def timeOf (s : Option Stamp) : Text :=
  match s with
  | some s => timeOfDay s.time
  | none => noTime

/-! ### Names on paper -/

/-- 06 R118 step 2: the title of a kind. -/
def title : JobKind → Text
  | .settleSlip => txt "SETTLEMENT SLIP"
  | .voidSlip => txt "VOID SLIP"
  | .payReceipt => txt "PAYMENT RECEIPT"
  | .payVoucher => txt "PAYMENT VOUCHER"
  | .tillReport => txt "TILL REPORT"
  | .dayReport => txt "DAY REPORT"
  | .copy => txt "TICKET COPY"

/-- The name of a ticket state (02 R22). -/
def ticketState : TicketState → Text
  | .loaded => txt "LOADED"
  | .settled => txt "SETTLED"
  | .held => txt "HELD"
  | .paid => txt "PAID"
  | .void => txt "VOID"

/-- 06 R119: the kind tag of a weighing. -/
def kindTag : WeighKind → Text
  | .gross => txt "GROSS"
  | .drop => txt "DROP"
  | .tare => txt "TARE"
  | .storedTare => txt "STORED"

/-! ### The ticket body (06 R119 to R121) -/

/-- 06 R119: the row of the weighing at position `i`. -/
def weighingRow (w i : Nat) (e : WeighEntry) : List Text :=
  labelValue w (txt "W" ++ decimal i ++ txt " " ++ kindTag e.kind ++ txt " B" ++ decimal e.bridge.val ++ txt " " ++ timeOf e.time)
    (weight e.weight)

/-- 06 R120: the rows of a settled line after its NET row. -/
def settledRows (w : Nat) (manual : Bool) (l : SnapLineSettlement) : List Text :=
  (if 0 < l.deduction then labelValue w (if manual then txt "  LESS MANUAL" else txt "  LESS") (weight l.deduction) else [])
    ++ labelValue w (txt "  " ++ weight l.payable ++ txt " x " ++ price l.price ++ txt " =") (lineValue l.value)

/-- 06 R120: the rows of the line at position `i`. -/
def lineRows (w i : Nat) (l : SnapLine) : List Text :=
  [textLine w (txt "L" ++ decimal i ++ txt " " ++ l.name)] ++ labelValue w (txt "  NET") (weight l.net)
    ++ (match l.settlement with
        | some f => settledRows w l.manual.isSome f
        | none => [])

/-- 06 R121: the rows of the settlement part. -/
def settlementRows (w : Nat) (f : SettlementFigures) : List Text :=
  labelValue w (txt "SETTLED") (dateTime f.time) ++ labelValue w (txt "AMOUNT") (money f.amount)
    ++ (if f.holdDays = 0 then []
        else match f.release with
          | some d => [textLine w (txt "HELD UNTIL " ++ date d)]
          | none => [textLine w (txt "HELD UNDATED")])

/-- 06 R121: the rows of the payment part; `amount` is the ticket amount. -/
def paymentRows (w amount : Nat) (f : PaymentFigures) : List Text :=
  (match f.method with
   | .cash =>
     labelValue w (txt "METHOD") (txt "CASH") ++ labelValue w (txt "TILL") (decimal f.till.val)
       ++ labelValue w (txt "CASH PAID") (money (f.cashPaid.getD 0)) ++ labelValue w (txt "ROUNDING") (money (f.rounding.getD 0))
   | .voucher =>
     labelValue w (txt "METHOD") (txt "VOUCHER") ++ labelValue w (txt "TILL") (decimal f.till.val)
       ++ labelValue w (txt "VOUCHER AMOUNT") (money amount))
    ++ labelValue w (txt "PAID") (dateTime f.time)

/-- Rows of the entries of a list, each with its position counted from 1. -/
def numbered {α : Type} (rows : Nat → α → List Text) (xs : List α) : List Text :=
  xs.zipIdx.flatMap fun x => rows (x.2 + 1) x.1

/-- 06 R119 to R121: the ticket body. -/
def ticketBody (w : Nat) (t : TicketSnap) : List Text :=
  labelValue w (txt "TICKET") (decimal t.number) ++ labelValue w (txt "STATE") (ticketState t.state)
    ++ labelValue w (txt "VEHICLE") (t.vehicle.getD (txt "-"))
    ++ labelValue w (txt "SELLER") ((t.seller.map decimal).getD (txt "-"))
    ++ labelValue w (txt "OPENED") (dateTime t.opened)
    ++ numbered (weighingRow w) t.weighings ++ numbered (lineRows w) t.lines
    ++ (match t.settlement with
        | some f => settlementRows w f
        | none => [])
    ++ (match t.payment with
        | some f => paymentRows w ((t.settlement.map (·.amount)).getD 0) f
        | none => [])
    ++ (match t.void with
        | some v => labelValue w (txt "VOIDED") (dateTime v.time)
        | none => [])

/-! ### The till body and the day body (06 R122, R123) -/

/-- 06 R122: the till body; a snapshot with no counted field is of a forced close (R111). -/
def tillBody (w : Nat) (index : Port) (t : Till) (expected : Int) : List Text :=
  labelValue w (txt "TILL") (decimal index.val) ++ labelValue w (txt "STATE") (if t.isOpen then txt "OPEN" else txt "CLOSED")
    ++ labelValue w (txt "OPENED") (dateTime t.opened) ++ labelValue w (txt "FLOAT") (money t.float)
    ++ labelValue w (txt "CASH LOADED") (money t.cashLoaded) ++ labelValue w (txt "CASH PAID") (money t.cashPaid)
    ++ labelValue w (txt "ROUNDING") (money t.rounding) ++ labelValue w (txt "VOUCHERS") (decimal t.voucherCount)
    ++ labelValue w (txt "VOUCHER AMOUNT") (money t.voucherAmount) ++ labelValue w (txt "TICKET SUM") (money t.ticketSum)
    ++ labelValue w (txt "TICKETS PAID") (decimal t.ticketsPaid) ++ labelValue w (txt "EXPECTED CASH") (money expected)
    ++ (match t.counted with
        | some c => labelValue w (txt "COUNTED") (money c) ++ labelValue w (txt "OVER/SHORT") (money (t.overShort.getD 0))
        | none => [textLine w (txt "FORCED CLOSE")])

/-- 06 R123: the widths of the four columns of the grade rows. -/
def gradeColumns (w : Nat) : Nat × Nat × Nat × Nat :=
  if w = 32 then (8, 4, 8, 9) else if w = 40 then (12, 5, 10, 10) else (16, 6, 11, 12)

/-- 06 R123: one column line. -/
def columnLine (w : Nat) (name lines kg value : Text) : Text :=
  let (a, b, c, d) := gradeColumns w
  rstrip (nameCell a name ++ txt " " ++ numberCell b lines ++ txt " " ++ numberCell c kg ++ txt " " ++ numberCell d value)

/-- 06 R123: one grade row; the day value is printed as money, the remainder dropped (R117). -/
def gradeRow (w : Nat) (r : GradeRow) : Text :=
  columnLine w r.name (decimal r.lines) (decimal r.kg) (money (r.value / 100 : Nat))

/-- 06 R123: the day body. -/
def dayBody (w : Nat) (d : DayTotals) (closeTime : Option Stamp) (grades : List GradeRow) : List Text :=
  labelValue w (txt "BUSINESS DAY") (decimal d.businessDay) ++ labelValue w (txt "SINCE") (dateTime d.since)
    ++ labelValue w (txt "CLOSED") (dateTime closeTime) ++ labelValue w (txt "TICKETS OPENED") (decimal d.opened)
    ++ labelValue w (txt "TICKETS SETTLED") (decimal d.settled) ++ labelValue w (txt "PAID BY CASH") (decimal d.paidCash)
    ++ labelValue w (txt "PAID BY VOUCHER") (decimal d.paidVoucher) ++ labelValue w (txt "TICKETS VOIDED") (decimal d.voided)
    ++ labelValue w (txt "CASH TOTAL") (money d.cashTotal) ++ labelValue w (txt "VOUCHER TOTAL") (money d.voucherTotal)
    ++ labelValue w (txt "ROUNDING TOTAL") (money d.roundingTotal) ++ labelValue w (txt "RCPT COMPLETED") (decimal d.completed)
    ++ labelValue w (txt "RCPT INTERRUPTED") (decimal d.interrupted) ++ labelValue w (txt "RCPT ABANDONED") (decimal d.abandoned)
    ++ [ruleLine w, columnLine w (txt "GRADE") (txt "N") (txt "KG") (txt "VALUE")] ++ grades.map (gradeRow w)
    ++ (if d.storeLost then [textLine w (txt "STORE LOST")] else [])

/-- The body of a snapshot. -/
def body (w : Nat) : Snapshot → List Text
  | .ticket t => ticketBody w t
  | .till i t e => tillBody w i t e
  | .day d c g => dayBody w d c g

/-! ### The receipt (06 R118) -/

/-- 06 R118 step 1: the header lines whose first `w` cells are not all spaces. -/
def headerLines (w : Nat) (header : List Text) : List Text :=
  (header.filter fun l => !(l.take w).all (· == 0x20#8)).map (textLine w)

/-- 06 R118 step 5: the copy mark. -/
def copyMark (w : Nat) (copyOf : Option Nat) : Text :=
  match copyOf with
  | some n => textLine w (txt "COPY OF " ++ serialNumber n)
  | none => textLine w (txt "ORIGINAL NOT PRINTED")

/-- 06 R118: the rendered list of a job, for the serial it carries, at width `w`, under `header`, printed at
`printTime` (absent when the clock is invalid). -/
def receipt (w : Nat) (header : List Text) (printTime : Option Stamp) (serial : Nat) (job : Job) : List Text :=
  headerLines w header ++ [textLine w (title job.kind)]
    ++ labelValue w (txt "No. " ++ serialNumber serial) (dateTime printTime)
    ++ (if job.restarts = 0 then [] else [textLine w (txt "RESTART " ++ decimal job.restarts)])
    ++ (if job.kind = .copy then [copyMark w job.copyOf] else [])
    ++ body w job.snapshot ++ [ruleLine w]

end Render

end Sys2Proof.Machine
end

