-- ==== Sys2Proof/Machine/Settlement.lean ====
section
/-! DEFINITION. The arithmetic of the part: the captured weight (01 R11), settlement (04 R63 to R72) and the rounding of
a cash payment (05 R89), and counters that stop at their bound (05 R99, 08 R157). -/

namespace Sys2Proof.Machine

/-- A counter increased by `n`, stopping at its maximum (05 R99, 08 R155, R157). -/
def satAdd (a n : Nat) : Nat := min (a + n) Config.counterMax

/-- A signed balance moved by `n`, stopping at the bound it moves toward (05 R99, 08 R157). -/
def satAddInt (a n : Int) : Int := max (-(Config.counterMax : Int)) (min (a + n) Config.counterMax)

/-- 01 R11: the multiple of `d` nearest to `x`, the larger of two equally near. -/
def roundToDivision (d : Nat) (x : Int) : Int := (d : Int) * ((2 * x + d) / (2 * d))

/-- 04 R66: the deduction of a line, clamped to the net. -/
def lineDeduction (net perMille : Nat) (manual : Option Nat) : Nat :=
  min net (match manual with
    | some m => m
    | none => (net * perMille + 500) / 1000)

/-- 04 R66 to R68: a line's computed fields from its net, its manual deduction and its bound fields. -/
def computeLine (net : Nat) (manual : Option Nat) (b : LineSettlement) : LineSettlement :=
  let deduction := lineDeduction net b.perMille manual
  { b with deduction, payable := net - deduction, value := (net - deduction) * b.price }

/-- 04 R64: the bound fields of a grade, its computed fields still 0. An EMPTY grade binds zeros: no reachable state
binds one (03 R51, log 19). -/
def boundFields (g : Option GradeDef) : LineSettlement :=
  match g with
  | some g => ⟨g.price, g.perMille, g.restricted, if g.restricted then g.holdDays else none, 0, 0, 0⟩
  | none => ⟨0, 0, false, none, 0, 0, 0⟩

/-- 04 R64: a line bound to its grade and computed. -/
def settleLine (grades : List Grade) (l : Line) : Line :=
  { l with settlement := some (computeLine l.net l.manual (boundFields ((grades[l.grade]?).bind (·.defn)))) }

/-- 04 R80: a line computed again from its bound fields. -/
def resettleLine (l : Line) : Line :=
  { l with settlement := l.settlement.map (computeLine l.net l.manual) }

/-- 04 R69: the exact value of a ticket, the sum of its line values. -/
def exactValue (lines : List Line) : Nat := (lines.map fun l => (l.settlement.map (·.value)).getD 0).sum

/-- The sum of the payable weights of a ticket's lines (05 R95). -/
def payableSum (lines : List Line) : Nat := (lines.map fun l => (l.settlement.map (·.payable)).getD 0).sum

/-- 04 R69: minor units of an exact value, the remainder discarded. -/
def amountOf (exact : Nat) : Nat := exact / 100

/-- The line has bound restricted yes. -/
def Line.restricted (l : Line) : Bool := (l.settlement.map (·.restricted)).getD false

/-- 04 R72: the hold days a line asks for, 0 when it is not restricted. -/
def Line.hold (l : Line) : Nat := if l.restricted then (l.settlement.bind (·.holdDays)).getD 0 else 0

/-- 04 R72: the largest bound hold days among the restricted lines, or 0. -/
def holdDays (lines : List Line) : Nat := lines.foldl (fun a l => max a l.hold) 0

/-- 04 R63 stages 1 to 5: the ticket settled for the first time under the grade table and the clock. -/
def settleTicket (grades : List Grade) (clock : Clock) (t : Ticket) : Ticket :=
  let lines := t.lines.map (settleLine grades)
  let hold := holdDays lines
  let exact := exactValue lines
  { t with
    state := if lines.any Line.restricted then .held else .settled
    lines := lines
    settlement := some
      { figures :=
          { time := if clock.valid then some clock.now else none
            exact := exact
            amount := amountOf exact
            holdDays := hold
            release := if 0 < hold ∧ clock.valid then some (addDays clock.now.date hold) else none }
        slipSerial := none } }

/-- 04 R80: the ticket re-settled with its bound values, its state, hold and settled time kept. -/
def resettleTicket (t : Ticket) : Ticket :=
  let lines := t.lines.map resettleLine
  { t with
    lines := lines
    settlement := t.settlement.map fun p =>
      { p with figures := { p.figures with exact := exactValue lines, amount := amountOf (exactValue lines) } } }

/-- 05 R89: the cash amount for a ticket amount and a cash step, halves going down. -/
def cashAmount (amount step : Nat) : Nat :=
  let r := amount % step
  if 2 * r > step then amount - r + step else amount - r

/-- 05 R89: the rounding difference, the cash amount minus the ticket amount. -/
def cashRounding (amount step : Nat) : Int := (cashAmount amount step : Int) - amount

end Sys2Proof.Machine
end

