-- ==== Sys2Proof/Machine/Wire.lean ====
section
/-! DEFINITION. Encoding the fields of an answer (11 R197, R199): the field types, the codes of the named values, the
result codes, and the frame of an answer (10 R193) and the messages of the printer link (11 R201). -/

namespace Sys2Proof.Machine

namespace Wire

/-! ### Field types (11 R197) -/

/-- `v` as `n` bytes, most significant first (a value that does not fit is cut to its low bytes: log 20). -/
def num : Nat → Nat → List Byte
  | 0, _ => []
  | n + 1, v => num n (v / 256) ++ [BitVec.ofNat 8 v]

/-- An absent optional field of `n` bytes: every byte FFh. -/
def absent (n : Nat) : List Byte := List.replicate n 0xFF#8

/-- An optional unsigned field of `n` bytes. -/
def optNum (n : Nat) (v : Option Nat) : List Byte :=
  match v with
  | some v => num n v
  | none => absent n

/-- A SIGNED field: a sign byte, then a 5-byte magnitude; zero has sign 00h. -/
def signed (v : Int) : List Byte := (if v < 0 then 0x01#8 else 0x00#8) :: num 5 v.natAbs

/-- An optional SIGNED field. -/
def optSigned (v : Option Int) : List Byte :=
  match v with
  | some v => signed v
  | none => absent 6

/-- A FLAG field. -/
def flag (b : Bool) : List Byte := if b then [0x01#8] else [0x00#8]

/-- An optional FLAG field. -/
def optFlag (b : Option Bool) : List Byte :=
  match b with
  | some b => flag b
  | none => absent 1

/-- A TEXT field: a length byte, then the characters. -/
def text (t : Text) : List Byte := BitVec.ofNat 8 t.length :: t

/-- An optional TEXT field: length 0 when absent. -/
def optText (t : Option Text) : List Byte := text (t.getD [])

/-- A DATE field. -/
def date (d : Date) : List Byte := num 1 (d.year - 2000) ++ num 1 d.month ++ num 1 d.day

/-- An optional DATE field. -/
def optDate (d : Option Date) : List Byte :=
  match d with
  | some d => date d
  | none => absent 3

/-- A TIME field. -/
def time (t : TimeOfDay) : List Byte := num 1 t.hour ++ num 1 t.minute ++ num 1 t.second

/-- A STAMP field. -/
def stamp (s : Stamp) : List Byte := date s.date ++ time s.time

/-- An optional STAMP field. -/
def optStamp (s : Option Stamp) : List Byte :=
  match s with
  | some s => stamp s
  | none => absent 6

/-- A list: a U8 count of its entries, then the entries. -/
def list {α : Type} (entry : α → List Byte) (xs : List α) : List Byte := num 1 xs.length ++ xs.flatMap entry

/-- A group of fields present or absent as a whole: a FLAG, then the fields when present. -/
def group {α : Type} (fields : α → List Byte) (g : Option α) : List Byte :=
  match g with
  | some a => flag true ++ fields a
  | none => flag false

/-! ### Named values (11 R198, R199) -/

/-- 11 R199: the value of a result code. -/
def resultCode : ResultCode → Byte
  | .done => 0x00 | .busy => 0x01 | .aborted => 0x02 | .nothingToAbort => 0x03 | .badFrame => 0x04 | .badClass => 0x05
  | .badField => 0x06 | .notPermitted => 0x07 | .notFound => 0x08 | .tableFull => 0x09 | .wrongState => 0x0A
  | .ticketBusy => 0x0B | .bridgeBusy => 0x0C | .linkDown => 0x0D | .stale => 0x0E | .unstable => 0x0F
  | .scaleFault => 0x10 | .overload => 0x11 | .underload => 0x12 | .loadNotLess => 0x13 | .lineLimit => 0x14
  | .zeroRange => 0x15 | .duplicate => 0x16 | .gradeInUse => 0x17 | .noVehicle => 0x18 | .tareExpired => 0x19
  | .clockInvalid => 0x1A | .noSeller => 0x1B | .onHold => 0x1C | .tillClosed => 0x1E | .tillOpen => 0x1F
  | .tillShort => 0x20 | .tillsOpen => 0x21 | .queueFull => 0x22 | .noPrinter => 0x23 | .noJob => 0x24

/-- A ticket state; FREE is 00h. -/
def ticketState : TicketState → List Byte
  | .loaded => [0x01] | .settled => [0x02] | .held => [0x03] | .paid => [0x04] | .void => [0x05]

/-- A weighing kind. -/
def weighKind : WeighKind → List Byte
  | .gross => [0x00] | .drop => [0x01] | .tare => [0x02] | .storedTare => [0x03]

/-- A purpose. -/
def purpose : Purpose → List Byte
  | .gross => [0x00] | .drop => [0x01] | .tare => [0x02] | .storeTare => [0x03]

/-- A link state. -/
def linkState : LinkState → List Byte
  | .down => [0x00] | .live => [0x01] | .fault => [0x02]

/-- A beam state. -/
def beam : Beam → List Byte
  | .clear => [0x00] | .broken => [0x01]

/-- A payment method, requested (11 R198) or used (11 R199). -/
def method : Method → List Byte
  | .cash => [0x00] | .voucher => [0x01]

/-- A till state. -/
def tillState (isOpen : Bool) : List Byte := if isOpen then [0x01] else [0x00]

/-- A grade state. -/
def gradeState (isDefined : Bool) : List Byte := if isDefined then [0x01] else [0x00]

/-- A printer port state. -/
def portState : PortState → List Byte
  | .absent => [0x00] | .unknown => [0x01] | .ready => [0x02] | .printing => [0x03] | .late => [0x04]
  | .offline => [0x05] | .faulted => [0x06]

/-- A fault reason, optional. -/
def faultReason : Option FaultReason → List Byte
  | none => absent 1
  | some .noPaper => [0x00] | some .coverOpen => [0x01] | some .headHot => [0x02]

/-- A job kind or journal kind. -/
def jobKind : JobKind → List Byte
  | .settleSlip => [0x00] | .payReceipt => [0x01] | .payVoucher => [0x02] | .voidSlip => [0x03] | .tillReport => [0x04]
  | .dayReport => [0x05] | .copy => [0x06]

/-- A job state. -/
def jobState : JobState → List Byte
  | .queued => [0x00] | .printing => [0x01] | .paused => [0x02]

/-- A journal outcome. -/
def journalOutcome : JournalOutcome → List Byte
  | .printing => [0x00] | .complete => [0x01] | .interrupted => [0x02] | .abandoned => [0x03]

/-- A role. -/
def role : Role → List Byte
  | .off => [0x00] | .weigh => [0x01] | .pay => [0x02] | .office => [0x03]

/-- A presence. -/
def presence (present : Bool) : List Byte := if present then [0x01] else [0x00]

/-- A bridge, as the CHOICE of 11 R198. -/
def bridge (b : BridgeId) : List Byte := num 1 b.val

/-- A pending field or the bridge of a request in flight: an optional U8 (11 R199). -/
def optBridge (b : Option BridgeId) : List Byte := optNum 1 (b.map Fin.val)

/-- The slip flag and the queue position of an optional job (04 R75, 11 R199): queued is 00h. -/
def slip (position : Option Nat) : List Byte := (if position.isSome then [0x00] else [0x01]) ++ optNum 1 position

/-- A bridge configuration, in the order of 01 R1 and R20. -/
def config (c : BridgeConfig) : List Byte :=
  num 3 c.capacity ++ num 1 c.division ++ num 1 c.band ++ num 1 c.target ++ num 1 c.divider ++ num 1 c.motionTimeout
    ++ num 2 c.staleTimeout ++ flag c.positionCheck

/-- The payout limits, in the order of 05 R86. -/
def limits (l : Limits) : List Byte := num 4 l.ceiling ++ num 4 l.cap ++ num 1 l.step

end Wire

/-! ### Frames and messages -/

/-- 10 R193: the body of an answer frame. -/
def Answer.body (a : Answer) : List Byte := a.cls :: Wire.resultCode a.result :: a.fields

/-- The byte that brings `n` to a multiple of 256. -/
def checkByte (n : Nat) : Byte := BitVec.ofNat 8 (256 - n % 256)

/-- 11 section 11.1: a console frame around a body. -/
def consoleFrame (body : List Byte) : List Byte :=
  let n := BitVec.ofNat 8 body.length
  0xA6#8 :: n :: body ++ [checkByte (body.foldl (fun a b => a + b.toNat) body.length)]

/-- 10 R193: the bytes of an answer frame on the line. -/
def Answer.frame (a : Answer) : List Byte := consoleFrame a.body

/-- 11 R201: the bytes of a message to a printer. -/
def PrinterMessage.bytes : PrinterMessage → List Byte
  | .line t => 0xF1#8 :: BitVec.ofNat 8 t.length :: t
  | .cut => [0xF2#8]
  | .probe => [0xF3#8]

end Sys2Proof.Machine
end

