-- ==== Sys2Proof/Machine/Ops.lean ====
section
/-! DEFINITION. The named operations the meanings share: the homes of the ports and bridges, the console answer queue
and the taking of a frame (10 R186 to R194), the ticket, grade and tare lookups, the pending mark, snapshots (06 R110,
R111), the print queues (07 R132) and the journal (08 R150 to R155). -/

namespace Sys2Proof.Machine

/-- The outcome of a step. -/
abbrev Result := Host.Outcome State Fault Refusal

/-! ### Homes -/

/-- 11 R202: the main reset is asserted while either condition holds. -/
def State.inReset (s : State) : Bool := s.resetByPin || s.resetBySupply

/-- Console port `p`. -/
def State.console (s : State) (p : Port) : Console := s.consoles.get p
/-- Console port `p` replaced. -/
def State.setConsole (s : State) (p : Port) (c : Console) : State := { s with consoles := s.consoles.set p c }

/-- Weigh link `b`. -/
def State.bridge (s : State) (b : BridgeId) : Bridge := s.bridges.get b
/-- Weigh link `b` replaced. -/
def State.setBridge (s : State) (b : BridgeId) (x : Bridge) : State := { s with bridges := s.bridges.set b x }

/-- Printer port `p`. -/
def State.printer (s : State) (p : Port) : Printer := s.printers.get p
/-- Printer port `p` replaced. -/
def State.setPrinter (s : State) (p : Port) (x : Printer) : State := { s with printers := s.printers.set p x }

/-- Till `p`. -/
def State.till (s : State) (p : Port) : Till := s.tills.get p
/-- Till `p` replaced. -/
def State.setTill (s : State) (p : Port) (t : Till) : State := { s with tills := s.tills.set p t }

/-- 09 R171: the time stamp of an event taken now; absent when the clock is invalid. -/
def State.stamp (s : State) : Option Stamp := if s.clock.valid then some s.clock.now else none

/-- Today (09 R168). -/
def State.today (s : State) : Date := s.clock.now.date

/-! ### Answers and requests in flight (10 R186, R190, R194) -/

/-- 10 R186: the places of the answer queue that are spoken for. -/
def Console.spoken (c : Console) : Nat := c.answers.length + (if c.inFlight.isSome then 1 else 0)

/-- 10 R194: an answer queued at the tail; an idle transmitter begins the oldest. -/
def Console.push (c : Console) (a : Answer) : Console :=
  { c with answers := c.answers ++ [a], tx := if c.tx = .idle then .sending 0 else c.tx }

/-- An answer queued at port `p`. -/
def State.answer (s : State) (p : Port) (a : Answer) : State := s.setConsole p ((s.console p).push a)

/-- 10 R190: a weighing request taken into flight: recorded with its class and bridge, BUSY high. -/
def State.beginFlight (s : State) (p : Port) (cls : Byte) (b : BridgeId) : State :=
  s.setConsole p { s.console p with inFlight := some ⟨cls, b⟩, busy := true }

/-- 10 R190: the answer of the request in flight takes its place, the request becomes absent and BUSY falls. -/
def State.endFlight (s : State) (p : Port) (r : ResultCode) (fields : List Byte) : State :=
  match (s.console p).inFlight with
  | none => s
  | some f => s.setConsole p ({ s.console p with inFlight := none, busy := false }.push ⟨f.cls, r, fields⟩)

/-- 10 R182 to R185: the receiver back in IDLE with its timer stopped. -/
def State.idleReceiver (s : State) (p : Port) : State :=
  s.setConsole p { s.console p with rx := .idle, interByteTimer := false }

/-- The port takes frames: main reset is not asserted (10 R180) and the port is not OFF (10 R181). -/
def State.hears (s : State) (p : Port) : Bool := !s.inReset && (s.console p).role != .off

/-- 10 R183, R186: a frame completes: the receiver returns to IDLE, and the frame is taken by `act` when fewer than
four places are spoken for, else discarded. -/
def takeFrame (p : Port) (s : State) (act : State → State) : State :=
  if s.hears p then
    if (s.console p).spoken < Config.answerPlaces then act (s.idleReceiver p) else s.idleReceiver p
  else s

/-! ### Requests (10 R187 to R189) -/

/-- What the owning block answers to a request handed to it (10 R187 step 6). -/
inductive Reply where
  | refuse (r : ResultCode)                   -- refused with a code, nothing changed
  | done (fields : List Byte) (s : State)     -- carried out, with the answer fields and the state left
  | flight (b : BridgeId) (s : State)         -- a weighing taken into flight at a bridge

/-- The state after the block's reply: the answer is queued, or the request goes into flight. -/
def Reply.apply (r : Reply) (cls : Byte) (p : Port) (s : State) : State :=
  match r with
  | .refuse code => s.answer p ⟨cls, code, []⟩
  | .done fields t => t.answer p ⟨cls, .done, fields⟩
  | .flight b t => t.beginFlight p cls b

/-- The class byte of ABORT, the one request that is not answered BUSY (10 R187 step 3). -/
abbrev abortClass : Byte := 0x01

/-- 10 R187 steps 3 to 6: a good frame of a known class, decoded by `decode` and handed to `act`. -/
def examine {α : Type} (cls : Byte) (permitted : Role → Bool) (decode : List Byte → Option α)
    (act : Port → α → State → Reply) (p : Port) (fields : List Byte) (s : State) : State :=
  if (s.console p).inFlight.isSome && cls != abortClass then s.answer p ⟨cls, .busy, []⟩
  else if !permitted (s.console p).role then s.answer p ⟨cls, .notPermitted, []⟩
  else match decode fields with
    | none => s.answer p ⟨cls, .badField, []⟩
    | some r => (act p r s).apply cls p s

/-- A request frame: taken under 10 R186 and examined under R187. -/
def takeRequest {α : Type} (cls : Byte) (permitted : Role → Bool) (decode : List Byte → Option α)
    (act : Port → α → State → Reply) (p : Port) (fields : List Byte) (s : State) : Result :=
  .next (takeFrame p s (examine cls permitted decode act p fields))

/-- 10 R188: permitted to WEIGH. -/
def onlyWeigh (r : Role) : Bool := r == .weigh
/-- 10 R188: permitted to PAY. -/
def onlyPay (r : Role) : Bool := r == .pay
/-- 10 R188: permitted to OFFICE. -/
def onlyOffice (r : Role) : Bool := r == .office
/-- 10 R188: permitted to WEIGH and PAY. -/
def weighOrPay (r : Role) : Bool := r == .weigh || r == .pay
/-- 10 R188: permitted to every role. -/
def anyRole (r : Role) : Bool := r != .off

/-! ### Tables of optional entries -/

/-- The first entry that satisfies `q`, with its position. -/
def findEntry {α : Type} (q : α → Bool) : List (Option α) → Option (Nat × α)
  | [] => none
  | none :: rest => (findEntry q rest).map fun x => (x.1 + 1, x.2)
  | some a :: rest => if q a then some (0, a) else (findEntry q rest).map fun x => (x.1 + 1, x.2)

/-- The lowest empty position. -/
def firstEmpty {α : Type} : List (Option α) → Option Nat
  | [] => none
  | none :: _ => some 0
  | some _ :: rest => (firstEmpty rest).map (· + 1)

/-- The entries held, in order of position. -/
def entries {α : Type} (xs : List (Option α)) : List α := xs.filterMap id

/-! ### Tickets (02 R26, R27) -/

/-- 02 R26: the non-FREE ticket that carries a number, with its slot. -/
def State.findTicket (s : State) (n : Nat) : Option (Nat × Ticket) := findEntry (fun t => t.number == n) s.tickets

/-- The ticket of slot `i` replaced. -/
def State.putTicket (s : State) (i : Nat) (t : Ticket) : State := { s with tickets := s.tickets.set i (some t) }

/-- The lowest-indexed FREE slot (02 R29). -/
def State.freeSlot (s : State) : Option Nat := firstEmpty s.tickets

/-- 02 R27: the number after `n`, with 999,999 followed by 1. -/
def nextNumber (n : Nat) : Nat := if n < Config.numberMax then n + 1 else 1

/-- 02 R27: the first number from `n` on, in at most `fuel` steps, that `used` does not carry. -/
def freeNumber (used : Nat → Bool) : Nat → Nat → Nat
  | 0, n => n
  | fuel + 1, n => if used n then freeNumber used fuel (nextNumber n) else n

/-- 02 R27: the number to give to a new ticket. -/
def State.newNumber (s : State) : Nat :=
  freeNumber (fun n => (s.findTicket n).isSome) Config.slots s.ticketCounter

/-- The pending mark of a ticket cleared (02 R34). -/
def State.clearMark (s : State) (n : Nat) : State :=
  match s.findTicket n with
  | some (i, t) => s.putTicket i { t with pending := none }
  | none => s

/-- The ticket a pending weighing names (01 R12). -/
def WeighTask.ticket : WeighTask → Option Nat
  | .gross _ _ => none
  | .drop n _ _ => some n
  | .tare n _ _ => some n
  | .storeTare _ => none

/-- The grade index a pending weighing names (01 R12). -/
def WeighTask.grade : WeighTask → Option Nat
  | .gross _ _ => none
  | .drop _ g _ => some g
  | .tare _ g _ => some g
  | .storeTare _ => none

/-- The purpose of a pending weighing. -/
def WeighTask.purpose : WeighTask → Purpose
  | .gross _ _ => .gross
  | .drop _ _ _ => .drop
  | .tare _ _ _ => .tare
  | .storeTare _ => .storeTare

/-- The pending mark of the ticket a weighing names, if any, cleared. -/
def State.clearTaskMark (s : State) (task : WeighTask) : State :=
  match task.ticket with
  | some n => s.clearMark n
  | none => s

/-- The weight of a ticket's last weighing; every ticket has one (02 R24, log 19). -/
def Ticket.lastWeight (t : Ticket) : Nat := (t.weighings.getLast?.map (·.weight)).getD 0

/-- A weighing and the line it closes, appended in one event (02 R32, R33, 03 R58). -/
def Ticket.append (t : Ticket) (e : WeighEntry) (grade : Nat) (manual : Option Nat) : Ticket :=
  { t with
    pending := none
    weighings := t.weighings ++ [e]
    lines := t.lines ++ [⟨grade, t.lastWeight - e.weight, manual, none⟩] }

/-! ### Grades and tares (03 R47, R51, R55) -/

/-- The position of the first entry of a list that satisfies `q`. -/
def firstIndex {α : Type} (q : α → Bool) : List α → Option Nat
  | [] => none
  | a :: rest => if q a then some 0 else (firstIndex q rest).map (· + 1)

/-- 03 R47: the index of the DEFINED entry that carries a code. -/
def State.gradeIndex (s : State) (code : Nat) : Option Nat :=
  firstIndex (fun g => g.defn.any fun d => d.code == code) s.grades

/-- The definition of the entry at an index; absent when EMPTY. -/
def State.gradeDef (s : State) (i : Nat) : Option GradeDef := (s.grades[i]?).bind (·.defn)

/-- The name of the entry at an index as it stands (03 R49). -/
def State.gradeName (s : State) (i : Nat) : Text := ((s.gradeDef i).map (·.name)).getD []

/-- 03 R51 step 4, R54: a line of a non-FREE ticket or a pending weighing names the index. -/
def State.gradeInUse (s : State) (i : Nat) : Bool :=
  (entries s.tickets).any (fun t => t.lines.any fun l => l.grade == i)
  || s.bridges.toList.any (fun b => b.weighing.any fun w => w.task.grade == some i)

/-- The tare entry of a vehicle id, with its position (03 R55). -/
def State.findTare (s : State) (v : Text) : Option (Nat × Tare) := findEntry (fun t => t.vehicle == v) s.tares

/-- 03 R56: the expiry date of an entry under the validity in force. -/
def State.tareExpiry (s : State) (t : Tare) : Date := addDays t.stored s.tareValidity

/-- 03 R56, 09 R172: the entry is expired on the clock's date. -/
def State.tareExpired (s : State) (t : Tare) : Bool := dateBefore (s.tareExpiry t) s.today

/-! ### Snapshots (06 R110, R111) -/

/-- 06 R110: the snapshot of a line; the grade name is read now. -/
def State.snapLine (s : State) (l : Line) : SnapLine :=
  { name := s.gradeName l.grade, net := l.net, manual := l.manual,
    settlement := l.settlement.map fun f => ⟨f.price, f.restricted, f.deduction, f.payable, f.value⟩ }

/-- 06 R110: a ticket snapshot. -/
def State.snapTicket (s : State) (t : Ticket) : Snapshot :=
  .ticket
    { number := t.number, state := t.state, vehicle := t.vehicle, seller := t.seller, opened := t.opened,
      weighings := t.weighings, lines := t.lines.map s.snapLine, settlement := t.settlement.map (·.figures),
      payment := t.payment.map (·.figures), void := t.void }

/-- 05 R99: float plus cash loaded minus cash paid. -/
def Till.expected (t : Till) : Int := (t.float : Int) + t.cashLoaded - t.cashPaid

/-- 06 R111: the snapshot of a till. -/
def State.snapTill (s : State) (p : Port) : Snapshot := .till p (s.till p) (s.till p).expected

/-- The grade entries with lines paid, in ascending order of index (06 R111, 08 R166). -/
def State.gradeRows (s : State) : List GradeRow :=
  (s.grades.zipIdx.filter fun g => decide (0 < g.1.dayLines)).map fun g =>
    { index := g.2, name := (g.1.defn.map (·.name)).getD [], lines := g.1.dayLines, kg := g.1.dayKg, value := g.1.dayValue }

/-- 06 R111: the day snapshot, taken before the clearing. -/
def State.snapDay (s : State) : Snapshot := .day s.day s.stamp s.gradeRows

/-- The ticket number of a snapshot (07 R134). -/
def Snapshot.ticketNumber : Snapshot → Option Nat
  | .ticket t => some t.number
  | .till _ _ _ => none
  | .day _ _ _ => none

/-! ### Print queues (06 R109, 07 R132) -/

/-- A job as it is queued. -/
def newJob (kind : JobKind) (p : Port) (snapshot : Snapshot) (copyOf : Option Nat) : Job :=
  { kind, origin := p, snapshot, copyOf, state := .queued, serial := none, nextLine := none, restarts := 0 }

/-- 06 R109: why an obligatory job cannot be queued on port `p`. -/
def State.queueRefusal (s : State) (p : Port) : Option ResultCode :=
  if !(s.printer p).present then some .noPrinter
  else if Config.queuePlaces ≤ (s.printer p).queue.length then some .queueFull
  else none

/-- 07 R132: a job queued at the tail of the queue of port `p`. -/
def State.enqueue (s : State) (p : Port) (job : Job) : State :=
  s.setPrinter p { s.printer p with queue := (s.printer p).queue ++ [job] }

/-- 07 R132: the queue position of the job just queued. -/
def State.queuePosition (s : State) (p : Port) : Nat := (s.printer p).queue.length

/-- 06 R109: an optional job offered to port `p`: the state, and the queue position, absent when it was dropped. -/
def State.offer (s : State) (p : Port) (job : Job) : State × Option Nat :=
  match s.queueRefusal p with
  | some _ => (s, none)
  | none => (s.enqueue p job, some ((s.enqueue p job).queuePosition p))

/-! ### Closing a ticket (04 R63, R74, R75) -/

/-- 04 R75: the settlement outcome fields of an answer. -/
def settlementFields (t : Ticket) (position : Option Nat) : List Byte :=
  let f := (t.settlement.map (·.figures)).getD ⟨none, 0, 0, 0, none⟩
  Wire.ticketState t.state ++ Wire.num 5 f.exact ++ Wire.num 4 f.amount ++ Wire.num 1 f.holdDays ++ Wire.optDate f.release
    ++ Wire.slip position

/-- 04 R74: the settlement slip of a ticket offered to the queue paired with console `p`. -/
def State.offerSettleSlip (s : State) (p : Port) (t : Ticket) : State × Option Nat :=
  s.offer p (newJob .settleSlip p (s.snapTicket t) none)

/-- 02 R33, 03 R58, 04 R63: the ticket of slot `i`, its last weighing and line appended, is settled; the totals count
it and a slip is offered to console `p`. Answers the state, the settled ticket and the slip's position. -/
def State.closeTicket (s : State) (i : Nat) (t : Ticket) (p : Port) : State × Ticket × Option Nat :=
  let t := settleTicket s.grades s.clock t
  let s := { s with tickets := s.tickets.set i (some t), day := { s.day with settled := satAdd s.day.settled 1 } }
  let (s, position) := s.offerSettleSlip p t
  (s, t, position)

/-! ### Journal (08 R150 to R155) -/

/-- 08 R150: the serial after `n`, with 99,999,999 followed by 1. -/
def nextSerial (n : Nat) : Nat := if n < Config.serialMax then n + 1 else 1

/-- 08 R151: an entry made at the newest end; the oldest is removed when the ring is full. -/
def journalPush (ring : List JournalEntry) (e : JournalEntry) : List JournalEntry :=
  (if ring.length < Config.journalEntries then ring else ring.drop 1) ++ [e]

/-- 08 R153: a change of the entry of a serial, which only an entry in PRINTING takes; nothing when the ring no longer
holds it (07 R149). -/
def journalUpdate (ring : List JournalEntry) (serial : Nat) (f : JournalEntry → JournalEntry) : List JournalEntry :=
  ring.map fun e => if e.serial = serial ∧ e.outcome = .printing then f e else e

/-- 08 R153: the restart count of a job or entry raised by one, stopping at 255. -/
def nextRestart (n : Nat) : Nat := min (n + 1) Config.restartMax

/-- 08 R153, R155: the receipt counters of an outcome advanced, those of the day and the grand totals together. -/
def State.countOutcome (s : State) (o : JournalOutcome) : State :=
  match o with
  | .printing => s
  | .complete => { s with day := { s.day with completed := satAdd s.day.completed 1 },
                          grand := { s.grand with completed := satAdd s.grand.completed 1 } }
  | .interrupted => { s with day := { s.day with interrupted := satAdd s.day.interrupted 1 },
                             grand := { s.grand with interrupted := satAdd s.grand.interrupted 1 } }
  | .abandoned => { s with day := { s.day with abandoned := satAdd s.day.abandoned 1 },
                           grand := { s.grand with abandoned := satAdd s.grand.abandoned 1 } }

/-- 08 R153: the receipt of a serial at a port ends with an outcome: its entry, the counters and the open-serial
field. -/
def State.endReceipt (s : State) (p : Port) (serial : Nat) (o : JournalOutcome) : State :=
  let s := { s with journal := journalUpdate s.journal serial fun e => { e with outcome := o },
                    openSerials := s.openSerials.set p none }
  s.countOutcome o

end Sys2Proof.Machine
end

