-- ==== Sys2Proof/Machine/ClockUnit.lean ====
section
/-! DEFINITION. The calendar clock's events and requests (09_calendar_clock.md): the second boundary, SET-CLOCK with the
dating of undated tickets (04 R77), and ALIGN-MINUTE. -/

namespace Sys2Proof.Machine

/-- SECOND_BOUNDARY (09 R169): the clock counts on while main reset is asserted (09 R168). -/
def execSecondBoundary (s : State) : Result :=
  .next { s with clock := { s.clock with now := nextSecond s.clock.now, phase := 0 } }

/-- 04 R77: a HELD ticket with no release date. -/
def Ticket.undated (t : Ticket) : Bool := t.state == .held && t.settlement.any fun x => x.figures.release.isNone

/-- 04 R77: the release date of an undated ticket set from the date of a SET-CLOCK. -/
def Ticket.dated (t : Ticket) (today : Date) : Ticket :=
  if t.undated then
    { t with settlement := t.settlement.map fun x =>
        { x with figures := { x.figures with release := some (addDays today x.figures.holdDays) } } }
  else t

/-- SET-CLOCK handed to the clock and the ticket table (09 R174, 04 R77). -/
def setClockReply (_p : Port) (now : Stamp) (s : State) : Reply :=
  .done (Wire.stamp now ++ Wire.flag s.clock.valid ++ Wire.num 1 ((entries s.tickets).countP Ticket.undated))
    { s with clock := ⟨now, 0, true⟩, tickets := s.tickets.map (Option.map fun t => t.dated now.date) }

/-- SET_CLOCK (09 R174). -/
def execSetClock (p : Port) (fields : List Byte) (s : State) : Result :=
  takeRequest 0x38 onlyOffice Decode.setClock setClockReply p fields s

/-- ALIGN-MINUTE handed to the clock (09 R176). -/
def alignMinuteReply (_p : Port) (_ : Unit) (s : State) : Reply :=
  if !s.clock.valid then .refuse .clockInvalid
  else
    let now := alignedMinute s.clock.now
    .done (Wire.stamp now ++ Wire.signed (alignCorrection s.clock.now)) { s with clock := { s.clock with now, phase := 0 } }

/-- ALIGN_MINUTE (09 R176). -/
def execAlignMinute (p : Port) (fields : List Byte) (s : State) : Result :=
  takeRequest 0x39 onlyOffice Decode.noFields alignMinuteReply p fields s

end Sys2Proof.Machine
end

