-- ==== Sys2Proof/Machine/Weigh.lean ====
section
/-! DEFINITION. The weigh links (01_weigh_links_and_capture.md): samples, link states, steadiness, beams, ZERO, the
pending weighing, capture, SET-BRIDGE and QUERY-BRIDGE. -/

namespace Sys2Proof.Machine

/-! ### Stability -/

/-- Both beams CLEAR. -/
def Bridge.beamsClear (br : Bridge) : Bool := br.entryBeam == .clear && br.exitBeam == .clear

/-- 01 R9. -/
def Bridge.stable (br : Bridge) : Bool :=
  decide (br.config.target ≤ br.steady) && (!br.config.positionCheck || br.beamsClear)

/-- 01 R7: the weigh link after the steadiness evaluation of a counted sample. -/
def Bridge.evaluate (br : Bridge) (raw : Int) : Bridge :=
  let steady :=
    match br.reference with
    | none => 0
    | some ref =>
      if br.config.positionCheck && !br.beamsClear then 0
      else if (raw - ref).natAbs ≤ br.config.band * br.config.division then min (br.steady + 1) Config.steadyMax
      else 0
  { br with steady, reference := some raw }

/-! ### The pending weighing -/

/-- 01 R13 steps 8 and 9: why a weighing cannot be taken at the link. -/
def Bridge.claimRefusal (br : Bridge) : Option ResultCode :=
  match br.link with
  | .down => some .linkDown
  | .fault => some .scaleFault
  | .live => if br.weighing.isSome then some .bridgeBusy else none

/-- 01 R13: the pending weighing is created, its deadline the motion timeout from now. -/
def State.startWeighing (s : State) (b : BridgeId) (p : Port) (task : WeighTask) : State :=
  s.setBridge b { s.bridge b with weighing := some ⟨p, task, (s.bridge b).config.motionTimeout⟩ }

/-- The pending weighing of a bridge removed, and the mark of the ticket it names cleared (01 R17, 02 R34). -/
def State.dropWeighing (s : State) (b : BridgeId) : State :=
  match (s.bridge b).weighing with
  | none => s
  | some w => (s.clearTaskMark w.task).setBridge b { s.bridge b with weighing := none }

/-- 01 R17: a pending weighing ends without a capture; the console is answered the code and the bridge. -/
def State.failWeighing (s : State) (b : BridgeId) (r : ResultCode) : State :=
  match (s.bridge b).weighing with
  | none => s
  | some w => (s.dropWeighing b).endFlight w.console r (Wire.bridge b)

/-! ### Capture (01 R14 to R16) -/

/-- What the receiving block made of a captured weight: the code, the ticket concerned, the answer fields after W,
and the state it left. -/
structure Delivery where
  code   : ResultCode
  ticket : Option Nat
  fields : List Byte
  state  : State

/-- 02 R29: a ticket opened with a GROSS capture, in the lowest FREE slot and with a new number. -/
def State.deliverGross (s : State) (b : BridgeId) (w : Nat) (vehicle : Option Text) (seller : Option Nat) : Delivery :=
  match s.freeSlot with
  | none => ⟨.tableFull, none, [], s⟩
  | some i =>
    let number := s.newNumber
    let ticket : Ticket :=
      { number, state := .loaded, pending := none, vehicle, seller, opened := s.stamp,
        weighings := [⟨.gross, w, b, s.stamp⟩], lines := [], settlement := none, payment := none, void := none }
    ⟨.done, some number, Wire.num 3 number,
      { s with tickets := s.tickets.set i (some ticket), ticketCounter := nextNumber number,
               day := { s.day with opened := satAdd s.day.opened 1 } }⟩

/-- 01 R15: the checks of a DROP or TARE capture against the ticket's last weighing. -/
def lowerRefusal (config : BridgeConfig) (previous : Nat) (w : Int) : Option ResultCode :=
  if (config.capacity : Int) < w then some .overload
  else if w < 0 then some .underload
  else if (previous : Int) - w < config.division then some .loadNotLess
  else none

/-- 01 R15: the checks of a GROSS or STORE_TARE capture. -/
def grossRefusal (config : BridgeConfig) (w : Int) : Option ResultCode :=
  if (config.capacity : Int) < w then some .overload
  else if w < 20 * config.division then some .underload
  else none

/-- 02 R32: a DROP capture delivered to its ticket in slot `i`. -/
def State.deliverDrop (s : State) (b : BridgeId) (w : Nat) (i : Nat) (t : Ticket) (grade : Nat) (manual : Option Nat) :
    Delivery :=
  let t' := t.append ⟨.drop, w, b, s.stamp⟩ grade manual
  ⟨.done, some t.number, Wire.num 3 t.number ++ Wire.num 1 t.weighings.length ++ Wire.num 3 (t.lastWeight - w), s.putTicket i t'⟩

/-- 02 R33: a TARE capture delivered to its ticket in slot `i`, which is settled in the same event. -/
def State.deliverTare (s : State) (b : BridgeId) (w : Nat) (p : Port) (i : Nat) (t : Ticket) (grade : Nat)
    (manual : Option Nat) : Delivery :=
  let (s', t', position) := s.closeTicket i (t.append ⟨.tare, w, b, s.stamp⟩ grade manual) p
  ⟨.done, some t.number,
    Wire.num 3 t.number ++ Wire.num 1 t.weighings.length ++ Wire.num 3 (t.lastWeight - w) ++ settlementFields t' position, s'⟩

/-- 03 R56: of the entries expired today, the one with the earliest stored date, the lowest position on a tie. -/
def State.evictee (s : State) : Option (Nat × Tare) :=
  (s.tares.zipIdx.filterMap fun x => x.1.map fun t => (x.2, t)).foldl
    (fun best x =>
      if s.tareExpired x.2 then
        match best with
        | none => some x
        | some y => if dateBefore x.2.stored y.2.stored then some x else some y
      else best) none

/-- 03 R60: the answer fields of a stored tare. -/
def State.tareFields (s : State) (t : Tare) (replaced : Bool) (evicted : Option Text) : List Byte :=
  Wire.text t.vehicle ++ Wire.date t.stored ++ Wire.date (s.tareExpiry t) ++ Wire.flag replaced ++ Wire.optText evicted

/-- 03 R60: a STORE_TARE capture delivered to the vehicle tare table. -/
def State.deliverStoreTare (s : State) (b : BridgeId) (w : Nat) (vehicle : Text) : Delivery :=
  let entry : Tare := ⟨vehicle, w, b, s.today⟩
  match s.findTare vehicle with
  | some (i, _) => ⟨.done, none, s.tareFields entry true none, { s with tares := s.tares.set i (some entry) }⟩
  | none =>
    match firstEmpty s.tares with
    | some i => ⟨.done, none, s.tareFields entry false none, { s with tares := s.tares.set i (some entry) }⟩
    | none =>
      match s.evictee with
      | some (i, old) =>
        ⟨.done, none, s.tareFields entry false (some old.vehicle), { s with tares := s.tares.set i (some entry) }⟩
      | none => ⟨.tableFull, none, [], s⟩

/-- 01 R15, R16: the captured weight checked and handed on according to the purpose. A ticket that no slot holds
cannot be named by a pending weighing of a reachable state (02 R35, log 19). -/
def State.deliver (s : State) (b : BridgeId) (w : Int) (x : Weighing) : Delivery :=
  let config := (s.bridge b).config
  match x.task with
  | .gross vehicle seller =>
    match grossRefusal config w with
    | some r => ⟨r, none, [], s⟩
    | none => s.deliverGross b w.toNat vehicle seller
  | .drop n grade manual =>
    match s.findTicket n with
    | none => ⟨.notFound, some n, [], s⟩
    | some (i, t) =>
      match lowerRefusal config t.lastWeight w with
      | some r => ⟨r, some n, [], s.putTicket i { t with pending := none }⟩
      | none => s.deliverDrop b w.toNat i t grade manual
  | .tare n grade manual =>
    match s.findTicket n with
    | none => ⟨.notFound, some n, [], s⟩
    | some (i, t) =>
      match lowerRefusal config t.lastWeight w with
      | some r => ⟨r, some n, [], s.putTicket i { t with pending := none }⟩
      | none => s.deliverTare b w.toNat x.console i t grade manual
  | .storeTare vehicle =>
    match grossRefusal config w with
    | some r => ⟨r, none, [], s⟩
    | none => s.deliverStoreTare b w.toNat vehicle

/-- 01 R11: the captured weight of a sample at a bridge. -/
def Bridge.capturedWeight (br : Bridge) (raw : Int) : Int := roundToDivision br.config.division (raw - br.zeroOffset)

/-- 01 R14: the pending weighing `x` of bridge `b` captured at a counted sample. -/
def State.capture (s : State) (b : BridgeId) (x : Weighing) (raw : Int) : State :=
  let w := (s.bridge b).capturedWeight raw
  let d := s.deliver b w x
  let s' := d.state.setBridge b
    { s.bridge b with weighing := none, lastCapture := some ⟨w, s.stamp, x.task.purpose, d.ticket, d.code⟩ }
  s'.endFlight x.console d.code (Wire.bridge b ++ Wire.signed w ++ d.fields)

/-! ### Samples and link state -/

/-- 01 R5: the link of bridge `b` set to `l`, with the effects of the change. -/
def State.setLink (s : State) (b : BridgeId) (l : LinkState) : State :=
  let br := s.bridge b
  match br.link, l with
  | .live, .down => (s.setBridge b { br with link := .down, reference := none, steady := 0 }).failWeighing b .stale
  | .live, .fault => (s.setBridge b { br with link := .fault, reference := none, steady := 0 }).failWeighing b .scaleFault
  | .down, .live => s.setBridge b { br with link := .live, reference := none }
  | .fault, .live => s.setBridge b { br with link := .live, reference := none }
  | _, _ => s.setBridge b { br with link := l }

/-- 01 R6, R14: a counted sample: the steadiness evaluation, then the capture of a pending weighing when the bridge
is stable. -/
def State.countedSample (s : State) (b : BridgeId) (raw : Int) : State :=
  let br := (s.bridge b).evaluate raw
  let s := s.setBridge b br
  match br.weighing with
  | some x => if br.stable then s.capture b x raw else s
  | none => s

/-- 01 R6: a good LIVE sample passed to the divider. -/
def State.divide (s : State) (b : BridgeId) (raw : Int) : State :=
  let br := s.bridge b
  if br.config.divider ≤ br.dividerCount + 1 then (s.setBridge b { br with dividerCount := 0 }).countedSample b raw
  else s.setBridge b { br with dividerCount := br.dividerCount + 1 }

/-- 01 R3: a good frame taken at a weigh link. -/
def State.sample (s : State) (b : BridgeId) (raw : Int) (fault : Bool) : State :=
  let br := s.bridge b
  let s := s.setBridge b { br with latest := some ⟨raw, fault⟩, staleTimer := some br.config.staleTimeout, rx := .hunting }
  if fault then s.setLink b .fault else (s.setLink b .live).divide b raw

/-- SAMPLE_EVENT (01 R3): bit 0 of the status byte is the fault flag, the other bits are ignored. -/
def execSampleEvent (b : BridgeId) (raw : BitVec 24) (status : Byte) (s : State) : Result :=
  .next (if s.inReset then s else s.sample b raw.toInt (status.getLsbD 0))

/-- BAD_SAMPLE_FRAME (01 R3, 11 R200): the frame is discarded; the receiver hunts again and nothing else changes. -/
def execBadSampleFrame (b : BridgeId) (s : State) : Result :=
  .next (if s.inReset then s else s.setBridge b { s.bridge b with rx := .hunting })

/-- SAMPLE_GAP_TIMEOUT (11 R200): the frame being collected is abandoned. -/
def execSampleGapTimeout (b : BridgeId) (s : State) : Result :=
  .next (if s.inReset then s else s.setBridge b { s.bridge b with rx := .hunting })

/-- STALE_TIMER_EXPIRY (01 R4): the timer stops and the link goes DOWN. A stopped timer does not expire (log 4). -/
def execStaleTimerExpiry (b : BridgeId) (s : State) : Result :=
  .next (if (s.bridge b).staleTimer.isSome && !s.inReset then
      (s.setBridge b { s.bridge b with staleTimer := none }).setLink b .down
    else s)

/-- MOTION_DEADLINE (01 R17): the motion deadline of a pending weighing, which no longer exists without one (log 4). -/
def execMotionDeadline (b : BridgeId) (s : State) : Result :=
  .next (if s.inReset then s else s.failWeighing b .unstable)

/-- The state of one beam. -/
def Bridge.beamState (br : Bridge) (e : BeamEnd) : Beam :=
  match e with
  | .entry => br.entryBeam
  | .exit => br.exitBeam

/-- One beam set. -/
def Bridge.setBeam (br : Bridge) (e : BeamEnd) (x : Beam) : Bridge :=
  match e with
  | .entry => { br with entryBeam := x }
  | .exit => { br with exitBeam := x }

/-- 01 R8: a high level is CLEAR and a low level is BROKEN. -/
def beamOfLevel (high : Bool) : Beam := if high then .clear else .broken

/-- 01 R8: a beam event at a weigh link. A level that is the beam's own is no change (log 16). -/
def Bridge.beamChange (br : Bridge) (e : BeamEnd) (x : Beam) : Bridge :=
  if br.beamState e = x then br
  else
    let br := br.setBeam e x
    if br.config.positionCheck then
      match x with
      | .broken => { br with steady := 0 }
      | .clear => { br with reference := none }
    else br

/-- BEAM_EVENT (01 R8). -/
def execBeamEvent (b : BridgeId) (e : BeamEnd) (high : Bool) (s : State) : Result :=
  .next (if s.inReset then s else s.setBridge b ((s.bridge b).beamChange e (beamOfLevel high)))

/-! ### Weighing requests (01 R13) -/

/-- OPEN-TICKET handed to its blocks (01 R13, 02 R28). -/
def openTicketReply (p : Port) (r : OpenTicketReq) (s : State) : Reply :=
  if s.freeSlot.isNone then .refuse .tableFull
  else match (s.bridge r.bridge).claimRefusal with
    | some code => .refuse code
    | none => .flight r.bridge (s.startWeighing r.bridge p (.gross r.vehicle r.seller))

/-- WEIGH-DROP (`drop`) or WEIGH-TARE handed to its blocks (01 R13, 02 R31). -/
def weighReply (drop : Bool) (p : Port) (r : WeighReq) (s : State) : Reply :=
  match s.gradeIndex r.code with
  | none => .refuse .notFound
  | some grade =>
    match s.findTicket r.ticket with
    | none => .refuse .notFound
    | some (i, t) =>
      if t.state ≠ .loaded then .refuse .wrongState
      else if t.pending.isSome then .refuse .ticketBusy
      else if drop ∧ 6 < t.weighings.length then .refuse .lineLimit
      else match (s.bridge r.bridge).claimRefusal with
        | some code => .refuse code
        | none =>
          let task : WeighTask := if drop then .drop r.ticket grade r.manual else .tare r.ticket grade r.manual
          .flight r.bridge ((s.putTicket i { t with pending := some r.bridge }).startWeighing r.bridge p task)

/-- STORE-TARE handed to its blocks (01 R13). -/
def storeTareReply (p : Port) (r : StoreTareReq) (s : State) : Reply :=
  if !s.clock.valid then .refuse .clockInvalid
  else match (s.bridge r.bridge).claimRefusal with
    | some code => .refuse code
    | none => .flight r.bridge (s.startWeighing r.bridge p (.storeTare r.vehicle))

/-- OPEN_TICKET (02 R28). -/
def execOpenTicket (p : Port) (fields : List Byte) (s : State) : Result :=
  takeRequest 0x10 onlyWeigh Decode.openTicket openTicketReply p fields s

/-- WEIGH_DROP (02 R31). -/
def execWeighDrop (p : Port) (fields : List Byte) (s : State) : Result :=
  takeRequest 0x11 onlyWeigh Decode.weigh (weighReply true) p fields s

/-- WEIGH_TARE (02 R31). -/
def execWeighTare (p : Port) (fields : List Byte) (s : State) : Result :=
  takeRequest 0x12 onlyWeigh Decode.weigh (weighReply false) p fields s

/-- STORE_TARE (01 R13). -/
def execStoreTare (p : Port) (fields : List Byte) (s : State) : Result :=
  takeRequest 0x13 onlyWeigh Decode.storeTare storeTareReply p fields s

/-! ### ZERO, SET-BRIDGE, QUERY-BRIDGE -/

/-- 01 R10 step 4: the reference is too far from zero, displayed or raw. -/
def zeroOutOfRange (br : Bridge) (reference : Int) : Bool :=
  decide ((br.config.capacity : Int) < 50 * (reference - br.zeroOffset).natAbs ∨ (br.config.capacity : Int) < 25 * reference.natAbs)

/-- ZERO handed to the weigh link (01 R10). A stable bridge of a reachable state has a reference (log 19). -/
def zeroReply (_p : Port) (b : BridgeId) (s : State) : Reply :=
  let br := s.bridge b
  match br.claimRefusal with
  | some code => .refuse code
  | none =>
    if !br.stable then .refuse .unstable
    else match br.reference with
      | none => .refuse .unstable
      | some ref =>
        if zeroOutOfRange br ref then .refuse .zeroRange
        else .done (Wire.signed ref) (s.setBridge b { br with zeroOffset := ref })

/-- ZERO (01 R10). -/
def execZero (p : Port) (fields : List Byte) (s : State) : Result :=
  takeRequest 0x15 onlyWeigh Decode.bridgeOnly zeroReply p fields s

/-- SET-BRIDGE handed to the weigh link (01 R20). -/
def setBridgeReply (_p : Port) (r : SetBridgeReq) (s : State) : Reply :=
  let br := s.bridge r.bridge
  if br.weighing.isSome then .refuse .bridgeBusy
  else .done (Wire.config r.config)
    (s.setBridge r.bridge { br with config := r.config, dividerCount := 0, reference := none, steady := 0 })

/-- SET_BRIDGE (01 R20). -/
def execSetBridge (p : Port) (fields : List Byte) (s : State) : Result :=
  takeRequest 0x34 onlyOffice Decode.setBridge setBridgeReply p fields s

/-- 01 R21: the fields of the latest sample. -/
def sampleFields (br : Bridge) (x : Sample) : List Byte :=
  Wire.signed x.raw ++ Wire.signed (x.raw - br.zeroOffset) ++ Wire.flag x.fault

/-- 01 R21: the fields of a pending weighing. -/
def weighingFields (w : Weighing) : List Byte :=
  Wire.num 1 w.console.val ++ Wire.purpose w.task.purpose ++ Wire.optNum 3 w.task.ticket

/-- 01 R14, R21: the fields of the last capture record. -/
def captureFields (c : Capture) : List Byte :=
  Wire.signed c.weight ++ Wire.optStamp c.time ++ Wire.purpose c.purpose ++ Wire.optNum 3 c.ticket ++ [Wire.resultCode c.outcome]

/-- 01 R21: the answer fields of QUERY-BRIDGE. -/
def bridgeFields (br : Bridge) : List Byte :=
  Wire.config br.config ++ Wire.linkState br.link ++ Wire.group (sampleFields br) br.latest ++ Wire.signed br.zeroOffset
    ++ Wire.num 1 br.steady ++ Wire.flag br.stable ++ Wire.beam br.entryBeam ++ Wire.beam br.exitBeam
    ++ Wire.group weighingFields br.weighing ++ Wire.group captureFields br.lastCapture

/-- QUERY-BRIDGE handed to the weigh link (01 R21). -/
def queryBridgeReply (_p : Port) (b : BridgeId) (s : State) : Reply := .done (bridgeFields (s.bridge b)) s

/-- QUERY_BRIDGE (01 R21). -/
def execQueryBridge (p : Port) (fields : List Byte) (s : State) : Result :=
  takeRequest 0x52 anyRole Decode.bridgeOnly queryBridgeReply p fields s

end Sys2Proof.Machine
end

