-- ==== Sys2Proof/Machine/ConsolePorts.lean ====
section
/-! DEFINITION. The console ports' own requests and events (10_console_ports.md): ABORT, QUERY-STATUS, the answers to
frames that are no request, abandoned frames, and the transmitter. -/

namespace Sys2Proof.Machine

/-- ABORT taken at the console port (10 R192, 01 R18): the weighing's ABORTED answer goes first, then DONE. -/
def abortReply (p : Port) (_ : Unit) (s : State) : Reply :=
  match (s.console p).inFlight with
  | none => .refuse .nothingToAbort
  | some f => .done [] ((s.dropWeighing f.bridge).endFlight p .aborted (Wire.bridge f.bridge))

/-- ABORT (10 R192). -/
def execAbort (p : Port) (fields : List Byte) (s : State) : Result :=
  takeRequest 0x01 anyRole Decode.noFields abortReply p fields s

/-- 10 R196: the fields of one console port. -/
def consoleStatusFields (c : Console) : List Byte :=
  Wire.role c.role ++ Wire.optNum 1 (c.inFlight.map (·.cls.toNat)) ++ Wire.optBridge (c.inFlight.map (·.bridge))

/-- 10 R196: the answer fields of QUERY-STATUS. -/
def State.statusFields (s : State) (p : Port) : List Byte :=
  Wire.num 1 p.val ++ Wire.stamp s.clock.now ++ Wire.flag s.clock.valid ++ Wire.num 2 s.day.businessDay ++ Wire.flag s.day.storeLost
    ++ s.consoles.toList.flatMap consoleStatusFields ++ s.printers.toList.flatMap fun x => Wire.presence x.present

/-- QUERY-STATUS taken at the console port (10 R196). -/
def queryStatusReply (p : Port) (_ : Unit) (s : State) : Reply := .done (s.statusFields p) s

/-- QUERY_STATUS (10 R196). -/
def execQueryStatus (p : Port) (fields : List Byte) (s : State) : Result :=
  takeRequest 0x02 anyRole Decode.noFields queryStatusReply p fields s

/-- BAD_FRAME (10 R187 step 1). -/
def execBadFrame (p : Port) (cls : Byte) (s : State) : Result :=
  .next (takeFrame p s fun s => s.answer p ⟨cls, .badFrame, []⟩)

/-- BAD_CLASS (10 R187 step 2). -/
def execBadClass (p : Port) (cls : Byte) (s : State) : Result :=
  .next (takeFrame p s fun s => s.answer p ⟨cls, .badClass, []⟩)

/-- INTER_BYTE_TIMEOUT (10 R184): the frame in progress is abandoned. A stopped timer does not expire (log 4). -/
def execInterByteTimeout (p : Port) (s : State) : Result :=
  .next (if s.hears p && (s.console p).interByteTimer then s.idleReceiver p else s)

/-- BREAK_CONDITION (10 R185): a break or framing error abandons any frame in progress. -/
def execBreakCondition (p : Port) (s : State) : Result :=
  .next (if s.hears p then s.idleReceiver p else s)

/-- 10 R194: the oldest answer leaves the queue and the transmitter begins the next, if there is one. -/
def Console.transmitted (c : Console) : Console :=
  match c.answers with
  | [] => c
  | _ :: rest => { c with answers := rest, tx := if rest.isEmpty then .idle else .sending 0 }

/-- ANSWER_TRANSMITTED (10 R194). -/
def execAnswerTransmitted (p : Port) (s : State) : Result :=
  .next (if s.inReset then s else s.setConsole p (s.console p).transmitted)

end Sys2Proof.Machine
end

