-- ==== Sys2Proof/Machine/Grades.lean ====
section
/-! DEFINITION. The requests of the grade table and the vehicle tare table (03_grades_and_stored_tares.md). -/

namespace Sys2Proof.Machine

/-! ### Grades (03 R48, R51, R54) -/

/-- 03 R48: the fields of a definition in an answer. -/
def gradeDefFields (d : GradeDef) : List Byte :=
  Wire.num 2 d.code ++ Wire.text d.name ++ Wire.num 3 d.price ++ Wire.num 2 d.perMille ++ Wire.flag d.restricted

/-- 03 R48: the flag that tells whether the entry was EMPTY before; which value says so is free (log 11). -/
def wasEmptyFlag (wasEmpty : Bool) : Bool := wasEmpty == Config.setGradeFlagWhenEmpty

/-- 03 R48 step 3: a DEFINED entry at another index than `i` carries the code. -/
def State.codeElsewhere (s : State) (i code : Nat) : Bool :=
  s.grades.zipIdx.any fun x => x.2 != i && x.1.defn.any fun d => d.code == code

/-- SET-GRADE handed to the grade table (03 R48): the day totals of the entry are kept. -/
def setGradeReply (_p : Port) (r : SetGradeReq) (s : State) : Reply :=
  if s.codeElsewhere r.index r.grade.code then .refuse .duplicate
  else match s.grades[r.index]? with
    | none => .refuse .badField
    | some g =>
      .done (Wire.num 1 r.index ++ gradeDefFields r.grade ++ Wire.optNum 1 r.grade.holdDays ++ Wire.flag (wasEmptyFlag g.defn.isNone))
        { s with grades := s.grades.set r.index { g with defn := some r.grade } }

/-- SET_GRADE (03 R48). -/
def execSetGrade (p : Port) (fields : List Byte) (s : State) : Result :=
  takeRequest 0x30 onlyOffice Decode.setGrade setGradeReply p fields s

/-- REMOVE-GRADE handed to the grade table (03 R51). -/
def removeGradeReply (_p : Port) (code : Nat) (s : State) : Reply :=
  match s.gradeIndex code with
  | none => .refuse .notFound
  | some i =>
    if s.gradeInUse i then .refuse .gradeInUse
    else .done (Wire.num 1 i) { s with grades := s.grades.modify i fun g => { g with defn := none } }

/-- REMOVE_GRADE (03 R51). -/
def execRemoveGrade (p : Port) (fields : List Byte) (s : State) : Result :=
  takeRequest 0x31 onlyOffice Decode.removeGrade removeGradeReply p fields s

/-- 03 R54: the answer fields of QUERY-GRADE for the entry at an index. -/
def State.gradeFields (s : State) (i : Nat) (g : Grade) : List Byte :=
  Wire.num 1 i ++ Wire.gradeState g.defn.isSome ++ Wire.group gradeDefFields g.defn ++ Wire.optNum 1 (g.defn.bind (·.holdDays))
    ++ Wire.num 5 g.dayLines ++ Wire.num 5 g.dayKg ++ Wire.num 5 g.dayValue ++ Wire.flag (s.gradeInUse i)

/-- QUERY-GRADE handed to the grade table (03 R54). -/
def queryGradeReply (_p : Port) (r : QueryGradeReq) (s : State) : Reply :=
  match r with
  | .code code =>
    match s.gradeIndex code with
    | none => .refuse .notFound
    | some i => .done (s.gradeFields i ((s.grades[i]?).getD emptyGrade)) s
  | .index i => .done (s.gradeFields i ((s.grades[i]?).getD emptyGrade)) s

/-- QUERY_GRADE (03 R54). -/
def execQueryGrade (p : Port) (fields : List Byte) (s : State) : Result :=
  takeRequest 0x53 anyRole Decode.queryGrade queryGradeReply p fields s

/-! ### Stored tares (03 R57, R58, R61, R62) -/

/-- APPLY-STORED-TARE handed to its blocks (03 R57, R58). -/
def applyTareReply (p : Port) (r : ApplyTareReq) (s : State) : Reply :=
  match s.gradeIndex r.code with
  | none => .refuse .notFound
  | some grade =>
    match s.findTicket r.ticket with
    | none => .refuse .notFound
    | some (i, t) =>
      if t.state ≠ .loaded then .refuse .wrongState
      else if t.pending.isSome then .refuse .ticketBusy
      else match t.vehicle with
        | none => .refuse .noVehicle
        | some vehicle =>
          match s.findTare vehicle with
          | none => .refuse .notFound
          | some (_, tare) =>
            if !s.clock.valid then .refuse .clockInvalid
            else if s.tareExpired tare then .refuse .tareExpired
            else if (t.lastWeight : Int) - tare.weight < (s.bridge tare.bridge).config.division then .refuse .loadNotLess
            else
              let (s', t', position) := s.closeTicket i (t.append ⟨.storedTare, tare.weight, tare.bridge, s.stamp⟩ grade r.manual) p
              .done (Wire.num 3 r.ticket ++ Wire.num 3 tare.weight ++ Wire.bridge tare.bridge ++ Wire.date tare.stored
                ++ Wire.num 1 t.weighings.length ++ Wire.num 3 (t.lastWeight - tare.weight) ++ settlementFields t' position) s'

/-- APPLY_STORED_TARE (03 R57). -/
def execApplyStoredTare (p : Port) (fields : List Byte) (s : State) : Result :=
  takeRequest 0x14 onlyWeigh Decode.applyTare applyTareReply p fields s

/-- 03 R61: id order, character by character; a prefix comes first. -/
def idBefore : Text → Text → Bool
  | [], [] => false
  | [], _ :: _ => true
  | _ :: _, [] => false
  | a :: x, b :: y => decide (a.toNat < b.toNat) || (a == b && idBefore x y)

/-- 03 R61: the entry whose id comes first after `v` in id order. -/
def State.tareAfter (s : State) (v : Text) : Option Tare :=
  (entries s.tares).foldl
    (fun best t =>
      if idBefore v t.vehicle then
        match best with
        | none => some t
        | some u => if idBefore t.vehicle u.vehicle then some t else some u
      else best) none

/-- 03 R61: the answer fields of QUERY-TARE. -/
def State.tareEntryFields (s : State) (t : Tare) : List Byte :=
  Wire.text t.vehicle ++ Wire.num 3 t.weight ++ Wire.bridge t.bridge ++ Wire.date t.stored ++ Wire.date (s.tareExpiry t)
    ++ Wire.optFlag (if s.clock.valid then some (!s.tareExpired t) else none) ++ Wire.num 2 s.tareValidity
    ++ Wire.num 1 (entries s.tares).length

/-- QUERY-TARE handed to the tare table (03 R61). -/
def queryTareReply (_p : Port) (r : QueryTareReq) (s : State) : Reply :=
  match r with
  | .exact v =>
    match s.findTare v with
    | none => .refuse .notFound
    | some (_, t) => .done (s.tareEntryFields t) s
  | .after v =>
    match s.tareAfter v with
    | none => .refuse .notFound
    | some t => .done (s.tareEntryFields t) s

/-- QUERY_TARE (03 R61). -/
def execQueryTare (p : Port) (fields : List Byte) (s : State) : Result :=
  takeRequest 0x54 anyRole Decode.queryTare queryTareReply p fields s

/-- DELETE-TARE handed to the tare table (03 R62). -/
def deleteTareReply (_p : Port) (v : Text) (s : State) : Reply :=
  match s.findTare v with
  | none => .refuse .notFound
  | some (i, t) =>
    .done (Wire.num 3 t.weight ++ Wire.bridge t.bridge ++ Wire.date t.stored) { s with tares := s.tares.set i none }

/-- DELETE_TARE (03 R62). -/
def execDeleteTare (p : Port) (fields : List Byte) (s : State) : Result :=
  takeRequest 0x32 onlyOffice Decode.deleteTare deleteTareReply p fields s

/-- SET-TARE-VALIDITY handed to the tare table (03 R62). -/
def setTareValidityReply (_p : Port) (days : Nat) (s : State) : Reply := .done (Wire.num 2 days) { s with tareValidity := days }

/-- SET_TARE_VALIDITY (03 R62). -/
def execSetTareValidity (p : Port) (fields : List Byte) (s : State) : Result :=
  takeRequest 0x33 onlyOffice Decode.setTareValidity setTareValidityReply p fields s

end Sys2Proof.Machine
end

