-- ==== Sys2Proof/Machine/Payout.lean ====
section
/-! DEFINITION. The payout unit (05_payout_tills_and_the_seller_cash_map.md): PAY, the tills, the seller cash map and the
payout limits. -/

namespace Sys2Proof.Machine

/-! ### The seller cash map (05 R94, R106) -/

/-- The seller's cash today; absent when the seller has no entry. -/
def State.sellerCash (s : State) (seller : Nat) : Option Nat := (s.sellers.find? (·.seller == seller)).map (·.cashToday)

/-- 05 R94: `c` added to the seller's cash today; an entry is made when the seller has none. -/
def chargeSeller (c seller : Nat) : List SellerEntry → List SellerEntry
  | [] => [⟨seller, satAdd 0 c⟩]
  | e :: rest => if e.seller = seller then { e with cashToday := satAdd e.cashToday c } :: rest else e :: chargeSeller c seller rest

/-! ### The decision (05 R90) -/

/-- The reason a payment reports (05 R90), numbered as 11 R199 numbers it. -/
inductive Reason where
  | requested | byCeiling | byCap | byMapFull | cash
deriving DecidableEq, Repr

/-- The code of a reason (11 R199). -/
def reasonCode : Reason → List Byte
  | .requested => [0x00] | .byCeiling => [0x01] | .byCap => [0x02] | .byMapFull => [0x03] | .cash => [0x04]

/-- 05 R90: the reason, from the requested method, the limits, the ticket amount, the seller's cash today and the
number of entries of the map. -/
def decideReason (requested : Method) (limits : Limits) (amount : Nat) (cashToday : Option Nat) (mapSize : Nat) : Reason :=
  if requested = .voucher then .requested
  else if limits.ceiling < amount then .byCeiling
  else if limits.cap ≠ 0 ∧ limits.cap < cashToday.getD 0 + cashAmount amount limits.step then .byCap
  else if cashToday.isNone ∧ Config.sellerEntries ≤ mapSize then .byMapFull
  else .cash

/-- 05 R90: the method used. -/
def methodUsed (r : Reason) : Method := if r = Reason.cash then Method.cash else Method.voucher

/-! ### The effects (05 R92 to R96) -/

/-- 05 R92: the payment part of a payment at the till of port `p`. -/
def paymentFigures (p : Port) (m : Method) (amount step : Nat) (now : Option Stamp) : PaymentFigures :=
  match m with
  | .cash => ⟨p, .cash, some (cashAmount amount step), some (cashRounding amount step), now⟩
  | .voucher => ⟨p, .voucher, none, none, now⟩

/-- 05 R92: the ticket made PAID. -/
def paidTicket (t : Ticket) (f : PaymentFigures) : Ticket := { t with state := .paid, payment := some ⟨f, none⟩ }

/-- 05 R93: the payment added to a till. For a cash payment of c = 0 the table of R93 adds the rounding difference and its text
leaves the balance as it was, which differ when the amount is not 0; the model follows the table, with which the till law of
R99 holds (the model's choice: log 22). -/
def chargeTill (t : Till) (m : Method) (amount step : Nat) : Till :=
  let t := { t with ticketSum := satAdd t.ticketSum amount, ticketsPaid := satAdd t.ticketsPaid 1 }
  match m with
  | .cash => { t with cashPaid := satAdd t.cashPaid (cashAmount amount step),
                      rounding := satAddInt t.rounding (cashRounding amount step) }
  | .voucher => { t with voucherCount := satAdd t.voucherCount 1, voucherAmount := satAdd t.voucherAmount amount }

/-- 05 R95: the payment added to the day totals. -/
def chargeDay (d : DayTotals) (m : Method) (amount step : Nat) : DayTotals :=
  match m with
  | .cash => { d with paidCash := satAdd d.paidCash 1, cashTotal := satAdd d.cashTotal (cashAmount amount step),
                      roundingTotal := satAddInt d.roundingTotal (cashRounding amount step) }
  | .voucher => { d with paidVoucher := satAdd d.paidVoucher 1, voucherTotal := satAdd d.voucherTotal amount }

/-- 05 R95: the payment added to the grand totals. -/
def chargeGrand (g : GrandTotals) (payable amount : Nat) : GrandTotals :=
  { g with payableKg := satAdd g.payableKg payable, amountPaid := satAdd g.amountPaid amount }

/-- 05 R95, 03 R53: one paid line added to the day totals of its grade. -/
def chargeGrade (l : Line) (g : Grade) : Grade :=
  { g with dayLines := satAdd g.dayLines 1, dayKg := satAdd g.dayKg ((l.settlement.map (·.payable)).getD 0),
           dayValue := satAdd g.dayValue ((l.settlement.map (·.value)).getD 0) }

/-- 05 R95: every line of a paid ticket added, in line order, to the grade at its index. -/
def chargeGrades (grades : List Grade) (lines : List Line) : List Grade :=
  lines.foldl (fun gs l => gs.modify l.grade (chargeGrade l)) grades

/-- 05 R92 to R96: a payment that has passed its checks: the ticket of slot `i`, the till of port `p`, the seller cash
map, the totals and the obligatory receipt. -/
def State.payTicket (s : State) (p : Port) (i : Nat) (t : Ticket) (seller amount : Nat) (m : Method) : State :=
  let t' := paidTicket t (paymentFigures p m amount s.limits.step s.stamp)
  let s' := { s with
    tickets := s.tickets.set i (some t')
    tills := s.tills.set p (chargeTill (s.till p) m amount s.limits.step)
    sellers := if m = Method.cash then chargeSeller (cashAmount amount s.limits.step) seller s.sellers else s.sellers
    day := chargeDay s.day m amount s.limits.step
    grand := chargeGrand s.grand (payableSum t.lines) amount
    grades := chargeGrades s.grades t.lines }
  s'.enqueue p (newJob (if m = Method.cash then .payReceipt else .payVoucher) p (s'.snapTicket t') none)

/-- 05 R96: the answer fields of a PAY that has left the state `s`. -/
def State.payFields (s : State) (p : Port) (n amount seller step : Nat) (reason : Reason) : List Byte :=
  let m : Method := methodUsed reason
  Wire.num 3 n ++ Wire.num 4 amount ++ Wire.method m ++ reasonCode reason
    ++ Wire.optNum 4 (if m = Method.cash then some (cashAmount amount step) else none)
    ++ Wire.optSigned (if m = Method.cash then some (cashRounding amount step) else none)
    ++ Wire.optNum 5 (s.sellerCash seller) ++ Wire.num 5 (s.till p).expected.toNat ++ Wire.num 1 (s.queuePosition p)

/-- 05 R87 steps 4a and 4b: why a HELD ticket is not paid today. -/
def State.holdRefusal (s : State) (t : Ticket) : Option ResultCode :=
  if t.state ≠ .held then none
  else if !s.clock.valid then some .clockInvalid
  else if (t.settlement.bind (·.figures.release)).any (fun d => !dateBefore s.today d) then none
  else some .onHold

/-- 05 R88: why the window of port `p` cannot pay. -/
def State.windowRefusal (s : State) (p : Port) : Option ResultCode :=
  if !(s.till p).isOpen then some .tillClosed else s.queueRefusal p

/-- PAY handed to the ticket table and the payout unit (05 R87 to R96). A ticket in SETTLED or HELD of a reachable
state carries its settlement part (02 R23, log 19). -/
def payReply (p : Port) (r : PayReq) (s : State) : Reply :=
  match s.findTicket r.ticket with
  | none => .refuse .notFound
  | some (i, t) =>
    if t.state ≠ .settled ∧ t.state ≠ .held then .refuse .wrongState
    else match t.seller with
      | none => .refuse .noSeller
      | some seller =>
        match s.holdRefusal t with
        | some code => .refuse code
        | none =>
          match s.windowRefusal p with
          | some code => .refuse code
          | none =>
            let amount := (t.settlement.map (·.figures.amount)).getD 0
            let reason := decideReason r.method s.limits amount (s.sellerCash seller) s.sellers.length
            if methodUsed reason = Method.cash ∧ (s.till p).expected < cashAmount amount s.limits.step then .refuse .tillShort
            else
              let s' := s.payTicket p i t seller amount (methodUsed reason)
              .done (s'.payFields p r.ticket amount seller s.limits.step reason) s'

/-- PAY (05 R87). -/
def execPay (p : Port) (fields : List Byte) (s : State) : Result :=
  takeRequest 0x23 onlyPay Decode.pay payReply p fields s

/-- SET-PAYOUT-LIMITS handed to the payout unit (05 R86). -/
def setPayoutLimitsReply (_p : Port) (l : Limits) (s : State) : Reply := .done (Wire.limits l) { s with limits := l }

/-- SET_PAYOUT_LIMITS (05 R86). -/
def execSetPayoutLimits (p : Port) (fields : List Byte) (s : State) : Result :=
  takeRequest 0x25 onlyOffice Decode.setPayoutLimits setPayoutLimitsReply p fields s

/-! ### Tills (05 R100 to R103, R107) -/

/-- 05 R100: a till opened with a float now. -/
def openedTill (float : Nat) (now : Option Stamp) : Till := { closedTill with isOpen := true, opened := now, float := float }

/-- OPEN-TILL handed to the payout unit (05 R100). -/
def openTillReply (p : Port) (float : Nat) (s : State) : Reply :=
  if (s.till p).isOpen then .refuse .tillOpen
  else .done (Wire.num 4 float ++ Wire.optStamp s.stamp) (s.setTill p (openedTill float s.stamp))

/-- OPEN_TILL (05 R100). -/
def execOpenTill (p : Port) (fields : List Byte) (s : State) : Result :=
  takeRequest 0x20 onlyPay Decode.openTill openTillReply p fields s

/-- LOAD-CASH handed to the payout unit (05 R101). -/
def loadCashReply (p : Port) (amount : Nat) (s : State) : Reply :=
  if !(s.till p).isOpen then .refuse .tillClosed
  else
    let t := { s.till p with cashLoaded := satAdd (s.till p).cashLoaded amount }
    .done (Wire.num 5 t.cashLoaded ++ Wire.num 5 t.expected.toNat) (s.setTill p t)

/-- LOAD_CASH (05 R101). -/
def execLoadCash (p : Port) (fields : List Byte) (s : State) : Result :=
  takeRequest 0x21 onlyPay Decode.loadCash loadCashReply p fields s

/-- 05 R102: a till closed with a count. -/
def countedTill (t : Till) (counted : Nat) : Till :=
  { t with isOpen := false, counted := some counted, overShort := some (counted - t.expected) }

/-- 05 R103: a till closed with no count. -/
def forcedTill (t : Till) : Till := { t with isOpen := false, counted := none, overShort := none }

/-- CLOSE-TILL handed to the payout unit (05 R102). -/
def closeTillReply (p : Port) (counted : Nat) (s : State) : Reply :=
  if !(s.till p).isOpen then .refuse .tillClosed
  else match s.queueRefusal p with
    | some code => .refuse code
    | none =>
      let expected := (s.till p).expected
      let s := s.setTill p (countedTill (s.till p) counted)
      let s := s.enqueue p (newJob .tillReport p (s.snapTill p) none)
      .done (Wire.num 5 expected.toNat ++ Wire.num 5 counted ++ Wire.signed (counted - expected) ++ Wire.num 1 (s.queuePosition p)) s

/-- CLOSE_TILL (05 R102). -/
def execCloseTill (p : Port) (fields : List Byte) (s : State) : Result :=
  takeRequest 0x22 onlyPay Decode.closeTill closeTillReply p fields s

/-- FORCE-CLOSE-TILL handed to the payout unit (05 R103): the report goes to the queue of the OFFICE console `p`. -/
def forceCloseTillReply (p : Port) (k : Port) (s : State) : Reply :=
  if !(s.till k).isOpen then .refuse .tillClosed
  else
    let s := s.setTill k (forcedTill (s.till k))
    let (s, position) := s.offer p (newJob .tillReport p (s.snapTill k) none)
    .done (Wire.num 1 k.val ++ Wire.num 5 (s.till k).expected.toNat ++ Wire.slip position) s

/-- FORCE_CLOSE_TILL (05 R103). -/
def execForceCloseTill (p : Port) (fields : List Byte) (s : State) : Result :=
  takeRequest 0x24 onlyOffice Decode.portOnly forceCloseTillReply p fields s

/-- 05 R107, R99: the last close of a till, its counted and its over/short, which are present together (a till that holds
one alone is in no run: log 19). -/
def Till.lastClose (t : Till) : Option (Nat × Int) :=
  match t.counted, t.overShort with
  | some counted, some overShort => some (counted, overShort)
  | _, _ => none

/-- 05 R107: the answer fields of QUERY-TILL; the row of the last close is a group (11 R197). -/
def State.tillFields (s : State) (k : Port) : List Byte :=
  let t := s.till k
  Wire.num 1 k.val ++ Wire.tillState t.isOpen ++ Wire.optStamp t.opened ++ Wire.num 4 t.float ++ Wire.num 5 t.cashLoaded
    ++ Wire.num 5 t.cashPaid ++ Wire.signed t.rounding ++ Wire.num 5 t.voucherCount ++ Wire.num 5 t.voucherAmount
    ++ Wire.num 5 t.ticketSum ++ Wire.num 5 t.ticketsPaid ++ Wire.num 5 t.expected.toNat
    ++ Wire.group (fun x => Wire.num 5 x.1 ++ Wire.signed x.2) t.lastClose ++ Wire.limits s.limits ++ Wire.num 1 s.sellers.length

/-- QUERY-TILL handed to the payout unit (05 R107). -/
def queryTillReply (_p : Port) (k : Port) (s : State) : Reply := .done (s.tillFields k) s

/-- QUERY_TILL (05 R107). -/
def execQueryTill (p : Port) (fields : List Byte) (s : State) : Result :=
  takeRequest 0x55 anyRole Decode.portOnly queryTillReply p fields s

end Sys2Proof.Machine
end

