-- ==== Sys2Proof/Machine/Printers.lean ====
section
/-! DEFINITION. The printer ports and print queues (07_printer_ports_and_print_queues.md): status bytes, the line timer,
job start, completion, pause, restart, DISCARD-JOB, SET-PRINTER and QUERY-PRINTER. -/

namespace Sys2Proof.Machine

/-! ### One port -/

/-- 07 R130: the line timer started with the T_line in force. -/
def Printer.startTimer (x : Printer) : Printer := { x with lineTimer := some x.timeout }

/-- 07 R128, R130: a message sent, which starts the line timer. -/
def Printer.send (x : Printer) (m : PrinterMessage) : Printer := { x with sent := x.sent ++ [m], lineTimer := some x.timeout }

/-- The head job changed. -/
def Printer.setHead (x : Printer) (f : Job → Job) : Printer :=
  { x with queue := match x.queue with
      | [] => []
      | j :: rest => f j :: rest }

/-- 07 R130: the port enters READY, its timer stopped. -/
def Printer.ready (x : Printer) : Printer := { x with state := .ready, fault := none, lineTimer := none }

/-- 07 R140: the port enters FAULTED with a reason, its timer restarted. -/
def Printer.faulted (x : Printer) (r : FaultReason) : Printer :=
  { x with state := .faulted, fault := some r, lineTimer := some x.timeout }

/-- 07 R139, R140: the head job PAUSED, its serial, next line index and restart count kept; the list is discarded. -/
def Printer.pauseHead (x : Printer) : Printer := { (x.setHead fun j => { j with state := .paused }) with rendered := none }

/-- The port takes bytes and expiries: main reset is not asserted (07 R146) and the port is present (07 R147). -/
def State.printerHears (s : State) (p : Port) : Bool := !s.inReset && (s.printer p).present

/-- 06 R115: the rendered list of a job at port `p` now, for the serial and restart count it carries. -/
def State.renderFor (s : State) (p : Port) (serial : Nat) (job : Job) : List Text :=
  Render.receipt (s.printer p).width s.header s.stamp serial job

/-! ### Start, completion, restart -/

/-- 07 R134: the till index of a journal entry. -/
def journalTill (job : Job) : Option Port :=
  match job.kind, job.snapshot with
  | .tillReport, .till k _ _ => some k
  | .payReceipt, .ticket t => t.payment.map (·.till)
  | .payVoucher, .ticket t => t.payment.map (·.till)
  | _, _ => none

/-- 07 R134: the amount of a journal entry: the cash paid of a PAY_RECEIPT, the ticket amount of a PAY_VOUCHER. -/
def journalAmount (job : Job) : Option Nat :=
  match job.kind, job.snapshot with
  | .payReceipt, .ticket t => t.payment.bind (·.cashPaid)
  | .payVoucher, .ticket t => t.settlement.map (·.amount)
  | _, _ => none

/-- 07 R134: the journal entry of a job at its start. -/
def startEntry (p : Port) (serial : Nat) (job : Job) : JournalEntry :=
  { serial, kind := job.kind, ticket := job.snapshot.ticketNumber, till := journalTill job, copyOf := job.copyOf,
    amount := journalAmount job, port := p, outcome := .printing, restarts := 0 }

/-- 07 R134, R141: the list of a job begun at line 0 on port `p`. -/
def Printer.beginList (x : Printer) (lines : List Text) : Printer :=
  { x with state := .printing, fault := none, rendered := some lines }.send (.line (lines.headD []))

/-- 07 R134: the head job `job` of port `p` starts. -/
def State.startJob (s : State) (p : Port) (job : Job) : State :=
  let serial := s.serialCounter
  let x := ((s.printer p).setHead fun j => { j with state := .printing, serial := some serial, nextLine := some 0 }).beginList
    (s.renderFor p serial job)
  { s.setPrinter p x with
    serialCounter := nextSerial serial
    journal := journalPush s.journal (startEntry p serial job)
    openSerials := s.openSerials.set p (some serial) }

/-- JOB_START (07 R133, R134): a READY port whose head is QUEUED starts it; without that condition there is no start
(log 4). -/
def execJobStart (p : Port) (s : State) : Result :=
  .next (match (s.printer p).queue with
    | job :: _ => if s.printerHears p && (s.printer p).state == .ready && job.state == .queued then s.startJob p job else s
    | [] => s)

/-- 02 R41: the serial of a completed job recorded in its ticket. A VOID ticket that was voided from LOADED, found under the
number of an old slip, has no settlement part (R23) to hold a slip serial: nothing is recorded, which is the model's
choice (log 21). -/
def recordSerial (kind : JobKind) (serial : Nat) (t : Ticket) : Ticket :=
  match kind with
  | .settleSlip =>
    if t.state = .loaded then t else { t with settlement := t.settlement.map fun x => { x with slipSerial := some serial } }
  | .payReceipt | .payVoucher =>
    if t.state = .paid then
      { t with payment := t.payment.map fun x => { x with receiptSerial := x.receiptSerial.or (some serial) } }
    else t
  | .voidSlip | .tillReport | .dayReport | .copy => t

/-- 02 R41: the ticket table handed the kind, ticket number and serial of a completed job. -/
def State.recordCompletion (s : State) (job : Job) (serial : Nat) : State :=
  match job.snapshot.ticketNumber with
  | none => s
  | some n =>
    match s.findTicket n with
    | none => s
    | some (i, t) => s.putTicket i (recordSerial job.kind serial t)

/-- 07 R136: the head job `job` of port `p` completes. -/
def State.completeJob (s : State) (p : Port) (job : Job) : State :=
  let s := s.setPrinter p { (s.printer p).ready with queue := (s.printer p).queue.drop 1, rendered := none }
  match job.serial with
  | none => s
  | some serial => (s.endReceipt p serial .complete).recordCompletion job serial

/-- 07 R135: DONE taken for the head job `job` of port `p` with its list: the next line, the cut, or completion. -/
def State.acknowledge (s : State) (p : Port) (job : Job) (lines : List Text) : State :=
  let x := { s.printer p with state := .printing }
  let i := job.nextLine.getD 0
  if i < lines.length then
    match lines[i + 1]? with
    | some next => s.setPrinter p ((x.setHead fun j => { j with nextLine := some (i + 1) }).send (.line next))
    | none => s.setPrinter p ((x.setHead fun j => { j with nextLine := some lines.length }).send .cut)
  else s.completeJob p job

/-- 07 R141: the head job `job` of port `p` restarted. -/
def State.restartJob (s : State) (p : Port) (job : Job) : State :=
  match job.serial with
  | none => s
  | some serial =>
    let job' := { job with restarts := nextRestart job.restarts, nextLine := some 0, state := .printing }
    let x := ((s.printer p).setHead fun _ => job').beginList (s.renderFor p serial job')
    { s.setPrinter p x with
      journal := journalUpdate s.journal serial fun e => { e with restarts := nextRestart e.restarts } }

/-! ### Status bytes (07 R129, R135, R138) -/

/-- 07 R129: READY taken in OFFLINE or FAULTED: a PAUSED head is restarted, otherwise the port becomes READY. -/
def State.readyOrRestart (s : State) (p : Port) : State :=
  match (s.printer p).queue with
  | job :: _ => if job.state = .paused then s.restartJob p job else s.setPrinter p (s.printer p).ready
  | [] => s.setPrinter p (s.printer p).ready

/-- 07 R138: READY taken in LATE: the job is paused and restarted in the same event. -/
def State.restartLate (s : State) (p : Port) : State :=
  match (s.printer p).queue with
  | job :: _ => s.restartJob p job
  | [] => s

/-- STATUS_READY (07 R129, R135, R138). -/
def execStatusReady (p : Port) (s : State) : Result :=
  .next (if !s.printerHears p then s
    else match (s.printer p).state with
      | .unknown => s.setPrinter p (s.printer p).ready
      | .offline => s.readyOrRestart p
      | .faulted => s.readyOrRestart p
      | .late => s.restartLate p
      | .absent => s
      | .ready => s
      | .printing => s)

/-- The port is PRINTING or LATE: the head job is in progress. -/
def Printer.inJob (x : Printer) : Bool := x.state == .printing || x.state == .late

/-- STATUS_DONE (07 R129, R135, R138): acted on in PRINTING and LATE only. -/
def execStatusDone (p : Port) (s : State) : Result :=
  .next (if s.printerHears p && (s.printer p).inJob then
      match (s.printer p).queue with
      | job :: _ => s.acknowledge p job ((s.printer p).rendered.getD [])
      | [] => s
    else s)

/-- STATUS_BUSY (07 R129, R135, R138): in PRINTING and LATE the timer is restarted and the port is PRINTING. -/
def execStatusBusy (p : Port) (s : State) : Result :=
  .next (if s.printerHears p && (s.printer p).inJob then s.setPrinter p { (s.printer p).startTimer with state := .printing } else s)

/-- FAULT_BYTE (07 R129, R140): the port becomes FAULTED; in PRINTING and LATE the head job is paused. -/
def execFaultByte (p : Port) (r : FaultReason) (s : State) : Result :=
  .next (if !s.printerHears p then s
    else if (s.printer p).inJob then s.setPrinter p ((s.printer p).pauseHead.faulted r)
    else s.setPrinter p ((s.printer p).faulted r))

/-- LINE_TIMER_EXPIRY (07 R130, R137, R139). A stopped timer does not expire (log 4). -/
def execLineTimerExpiry (p : Port) (s : State) : Result :=
  .next (if !(s.printerHears p && (s.printer p).lineTimer.isSome) then s
    else match (s.printer p).state with
      | .unknown => s.setPrinter p ((s.printer p).send .probe)
      | .offline => s.setPrinter p ((s.printer p).send .probe)
      | .faulted => s.setPrinter p ((s.printer p).send .probe)
      | .printing => s.setPrinter p ({ s.printer p with state := .late }.send .probe)
      | .late => s.setPrinter p ({ (s.printer p).pauseHead with state := .offline }.send .probe)
      | .absent => s
      | .ready => s)

/-! ### Requests (07 R142, R144, R145) -/

/-- 07 R142: the answer fields of a DISCARD-JOB that removed a job and left `n`. -/
def discardFields (job : Job) (n : Nat) : List Byte :=
  Wire.jobKind job.kind ++ Wire.optNum 3 job.snapshot.ticketNumber ++ Wire.optNum 4 job.serial ++ Wire.num 1 n

/-- 07 R142: the head of the queue of port `p` removed; the port state is not changed. -/
def State.removeHead (s : State) (p : Port) : State := s.setPrinter p { s.printer p with queue := (s.printer p).queue.drop 1 }

/-- DISCARD-JOB handed to the paired print queue (07 R142). -/
def discardJobReply (p : Port) (_ : Unit) (s : State) : Reply :=
  match (s.printer p).queue with
  | [] => .refuse .noJob
  | job :: rest =>
    match job.state with
    | .printing => .refuse .noJob
    | .queued => .done (discardFields job rest.length) (s.removeHead p)
    | .paused =>
      match job.serial with
      | none => .done (discardFields job rest.length) (s.removeHead p)
      | some serial => .done (discardFields job rest.length) ((s.removeHead p).endReceipt p serial .abandoned)

/-- DISCARD_JOB (07 R142). -/
def execDiscardJob (p : Port) (fields : List Byte) (s : State) : Result :=
  takeRequest 0x41 anyRole Decode.noFields discardJobReply p fields s

/-- SET-PRINTER handed to the printer port (07 R144). -/
def setPrinterReply (_p : Port) (r : SetPrinterReq) (s : State) : Reply :=
  .done (Wire.num 1 r.width ++ Wire.num 1 r.timeout)
    (s.setPrinter r.port { s.printer r.port with width := r.width, timeout := r.timeout })

/-- SET_PRINTER (07 R144). -/
def execSetPrinter (p : Port) (fields : List Byte) (s : State) : Result :=
  takeRequest 0x37 onlyOffice Decode.setPrinter setPrinterReply p fields s

/-- 07 R145: the fields of the job at position `i`. -/
def jobFields (i : Nat) (job : Job) : List Byte :=
  Wire.num 1 i ++ Wire.jobKind job.kind ++ Wire.num 1 job.origin.val ++ Wire.jobState job.state
    ++ Wire.optNum 3 job.snapshot.ticketNumber ++ Wire.optNum 4 job.serial ++ Wire.num 1 job.restarts

/-- 07 R145: the head progress: the next line index of a PRINTING or PAUSED head, and the number of rendered lines of a
PRINTING one. -/
def headProgress (x : Printer) : List Byte :=
  let next := match x.queue with
    | job :: _ => if job.state = .queued then none else job.nextLine
    | [] => none
  let lines := match x.queue with
    | job :: _ => if job.state = .printing then x.rendered.map List.length else none
    | [] => none
  Wire.optNum 1 next ++ Wire.optNum 1 lines

/-- 07 R145: the answer fields of QUERY-PRINTER. The number of jobs is the count that precedes the list (log 12). -/
def printerFields (k : Port) (x : Printer) : List Byte :=
  Wire.num 1 k.val ++ Wire.presence x.present ++ Wire.portState x.state ++ Wire.faultReason x.fault ++ Wire.num 1 x.width
    ++ Wire.num 1 x.timeout ++ Wire.list (fun y : Job × Nat => jobFields (y.2 + 1) y.1) x.queue.zipIdx ++ headProgress x

/-- QUERY-PRINTER handed to the printer port (07 R145). -/
def queryPrinterReply (_p : Port) (k : Port) (s : State) : Reply := .done (printerFields k (s.printer k)) s

/-- QUERY_PRINTER (07 R145). -/
def execQueryPrinter (p : Port) (fields : List Byte) (s : State) : Result :=
  takeRequest 0x56 anyRole Decode.portOnly queryPrinterReply p fields s

end Sys2Proof.Machine
end

