-- ==== Sys2Proof/Machine/Receipts.lean ====
section
/-! DEFINITION. The header store and COPY (06_receipt_content.md). The rendering itself is `Render`. -/

namespace Sys2Proof.Machine

/-- 06 R113, R114: a character as the header store holds it. -/
def storedChar (b : Byte) : Byte := if Decode.printable b then b else 0x3F#8

/-- 06 R113: the 48 cells that a text writes. -/
def headerCellsOf (t : Text) : Text :=
  (t.take Config.headerCells).map storedChar ++ List.replicate (Config.headerCells - t.length) 0x20#8

/-- SET-HEADER-LINE handed to the header store (06 R113). The characters counted as stored "?" are those of the first
48 that the part replaced. -/
def setHeaderLineReply (_p : Port) (r : SetHeaderLineReq) (s : State) : Reply :=
  let cells := headerCellsOf r.text
  .done (Wire.num 1 r.line ++ Wire.num 1 (r.text.length - Config.headerCells)
      ++ Wire.num 1 ((r.text.take Config.headerCells).countP fun b => !Decode.printable b) ++ Wire.text cells)
    { s with header := s.header.set r.line cells }

/-- SET_HEADER_LINE (06 R113). -/
def execSetHeaderLine (p : Port) (fields : List Byte) (s : State) : Result :=
  takeRequest 0x35 onlyOffice Decode.setHeaderLine setHeaderLineReply p fields s

/-- SET-HEADER-CELL handed to the header store (06 R114). -/
def setHeaderCellReply (_p : Port) (r : SetHeaderCellReq) (s : State) : Reply :=
  .done (Wire.num 1 r.line ++ Wire.num 1 r.column ++ [storedChar r.char])
    { s with header := s.header.modify r.line fun l => l.set r.column (storedChar r.char) }

/-- SET_HEADER_CELL (06 R114). -/
def execSetHeaderCell (p : Port) (fields : List Byte) (s : State) : Result :=
  takeRequest 0x36 onlyOffice Decode.setHeaderCell setHeaderCellReply p fields s

/-- 06 R126: the copy-of serial of a ticket. -/
def copyOfSerial (t : Ticket) : Option Nat :=
  match t.state with
  | .paid => t.payment.bind (·.receiptSerial)
  | .settled => t.settlement.bind (·.slipSerial)
  | .held => t.settlement.bind (·.slipSerial)
  | .void => t.settlement.bind (·.slipSerial)
  | .loaded => none

/-- 02 R35: COPY of a pending ticket reports the pending bridge. The list of 06 R125 does not name the field; that it follows
that list, and only for a pending ticket, is the model's choice (log 24). -/
def copyPending (t : Ticket) : List Byte :=
  match t.pending with
  | some b => Wire.bridge b
  | none => []

/-- 06 R125, 02 R35: the answer fields of a COPY of ticket `t`, its job at queue position `position`. -/
def copyFields (n : Nat) (t : Ticket) (position : Nat) : List Byte :=
  Wire.num 3 n ++ Wire.ticketState t.state ++ Wire.optNum 4 (copyOfSerial t) ++ Wire.num 1 position ++ copyPending t

/-- COPY handed to its blocks (06 R125). -/
def copyReply (p : Port) (n : Nat) (s : State) : Reply :=
  match s.findTicket n with
  | none => .refuse .notFound
  | some (_, t) =>
    match s.queueRefusal p with
    | some code => .refuse code
    | none =>
      let s' := s.enqueue p (newJob .copy p (s.snapTicket t) (copyOfSerial t))
      .done (copyFields n t (s'.queuePosition p)) s'

/-- COPY (06 R125). -/
def execCopy (p : Port) (fields : List Byte) (s : State) : Result :=
  takeRequest 0x40 anyRole Decode.ticketOnly copyReply p fields s

end Sys2Proof.Machine
end

