-- ==== Sys2Proof/Machine/Tickets.lean ====
section
/-! DEFINITION. The requests of the ticket table (02_the_ticket_table.md) and of settlement
(04_settlement_arithmetic_and_holds.md): SET-PARTY, VOID-TICKET, SET-DEDUCTION, QUERY-TICKET, LIST-TICKETS. -/

namespace Sys2Proof.Machine

/-- SET-PARTY handed to the ticket table (02 R39): each field present replaces the ticket's. -/
def setPartyReply (_p : Port) (r : SetPartyReq) (s : State) : Reply :=
  match s.findTicket r.ticket with
  | none => .refuse .notFound
  | some (i, t) =>
    if t.state = .paid ∨ t.state = .void then .refuse .wrongState
    else
      let t' : Ticket := { t with vehicle := r.vehicle.or t.vehicle, seller := r.seller.or t.seller }
      .done (Wire.optText t'.vehicle ++ Wire.optNum 3 t'.seller) (s.putTicket i t')

/-- SET_PARTY (02 R39). -/
def execSetParty (p : Port) (fields : List Byte) (s : State) : Result :=
  takeRequest 0x17 weighOrPay Decode.setParty setPartyReply p fields s

/-- 02 R40: a ticket made VOID now. -/
def voidedTicket (now : Option Stamp) (t : Ticket) : Ticket := { t with state := .void, void := some ⟨now⟩ }

/-- VOID-TICKET handed to the ticket table (02 R40). -/
def voidTicketReply (p : Port) (n : Nat) (s : State) : Reply :=
  match s.findTicket n with
  | none => .refuse .notFound
  | some (i, t) =>
    if t.state = .paid ∨ t.state = .void then .refuse .wrongState
    else if t.pending.isSome then .refuse .ticketBusy
    else
      let t' := voidedTicket s.stamp t
      let s := { s with tickets := s.tickets.set i (some t'), day := { s.day with voided := satAdd s.day.voided 1 } }
      let (s, position) := s.offer p (newJob .voidSlip p (s.snapTicket t') none)
      .done (Wire.num 3 n ++ Wire.slip position) s

/-- VOID_TICKET (02 R40). -/
def execVoidTicket (p : Port) (fields : List Byte) (s : State) : Result :=
  takeRequest 0x3A onlyOffice Decode.ticketOnly voidTicketReply p fields s

/-- 04 R79: the manual deduction of the line at position `k` (from 0) replaced. -/
def Ticket.setManual (t : Ticket) (k : Nat) (manual : Option Nat) : Ticket :=
  { t with lines := t.lines.modify k fun l => { l with manual } }

/-- 04 R81: the fields of the named line in the answer to SET-DEDUCTION. -/
def lineFields (l : Line) : List Byte :=
  let f := l.settlement.getD ⟨0, 0, false, none, 0, 0, 0⟩
  Wire.optNum 3 l.manual ++ Wire.num 3 f.deduction ++ Wire.num 3 f.payable ++ Wire.num 5 f.value

/-- SET-DEDUCTION handed to the ticket table and the settlement unit (04 R78 to R81). -/
def setDeductionReply (p : Port) (r : SetDeductionReq) (s : State) : Reply :=
  match s.findTicket r.ticket with
  | none => .refuse .notFound
  | some (i, t) =>
    if t.pending.isSome then .refuse .ticketBusy
    else if t.state ≠ .settled ∧ t.state ≠ .held then .refuse .wrongState
    else
      let t' := resettleTicket (t.setManual (r.line - 1) r.manual)
      match t'.lines[r.line - 1]? with
      | none => .refuse .notFound
      | some l =>
        let s := s.putTicket i t'
        let (s, position) := s.offerSettleSlip p t'
        .done (Wire.num 3 r.ticket ++ Wire.num 1 r.line ++ lineFields l ++ settlementFields t' position) s

/-- SET_DEDUCTION (04 R78). -/
def execSetDeduction (p : Port) (fields : List Byte) (s : State) : Result :=
  takeRequest 0x16 onlyWeigh Decode.setDeduction setDeductionReply p fields s

/-! ### Queries (02 R44, R45) -/

/-- 02 R44, 04 R71: the fields of a settlement part. -/
def settlementPartFields (x : Settlement) : List Byte :=
  Wire.optStamp x.figures.time ++ Wire.num 5 x.figures.exact ++ Wire.num 4 x.figures.amount ++ Wire.num 1 x.figures.holdDays
    ++ Wire.optDate x.figures.release ++ Wire.optNum 4 x.slipSerial

/-- 02 R44, 05 R92: the fields of a payment part. -/
def paymentPartFields (x : Payment) : List Byte :=
  Wire.num 1 x.figures.till.val ++ Wire.method x.figures.method ++ Wire.optNum 4 x.figures.cashPaid
    ++ Wire.optSigned x.figures.rounding ++ Wire.optStamp x.figures.time ++ Wire.optNum 4 x.receiptSerial

/-- 02 R44: the fields of a void part. -/
def voidPartFields (x : VoidPart) : List Byte := Wire.optStamp x.time

/-- 02 R44: the SUMMARY part. -/
def summaryFields (slot : Nat) (t : Ticket) : List Byte :=
  Wire.num 3 t.number ++ Wire.num 1 slot ++ Wire.ticketState t.state ++ Wire.optBridge t.pending ++ Wire.optText t.vehicle
    ++ Wire.optNum 3 t.seller ++ Wire.optStamp t.opened ++ Wire.num 1 t.weighings.length ++ Wire.num 1 t.lines.length
    ++ Wire.group settlementPartFields t.settlement ++ Wire.group paymentPartFields t.payment ++ Wire.group voidPartFields t.void

/-- 02 R44: one weighing entry. -/
def weighEntryFields (e : WeighEntry) : List Byte :=
  Wire.weighKind e.kind ++ Wire.num 3 e.weight ++ Wire.bridge e.bridge ++ Wire.optStamp e.time

/-- 02 R44, 11 R199: the settlement fields of a line. -/
def lineSettlementFields (f : LineSettlement) : List Byte :=
  Wire.num 3 f.price ++ Wire.num 2 f.perMille ++ Wire.flag f.restricted ++ Wire.optNum 1 f.holdDays ++ Wire.num 3 f.deduction
    ++ Wire.num 3 f.payable ++ Wire.num 5 f.value

/-- 02 R44, 11 R199: one line entry. -/
def lineEntryFields (l : Line) : List Byte :=
  Wire.num 1 l.grade ++ Wire.num 3 l.net ++ Wire.optNum 3 l.manual ++ Wire.group lineSettlementFields l.settlement

/-- QUERY-TICKET handed to the ticket table (02 R44). -/
def queryTicketReply (_p : Port) (r : QueryTicketReq) (s : State) : Reply :=
  match s.findTicket r.ticket with
  | none => .refuse .notFound
  | some (i, t) =>
    match r.part with
    | .summary => .done (summaryFields i t) s
    | .weighings => .done (Wire.num 3 t.number ++ Wire.list weighEntryFields t.weighings) s
    | .lines => .done (Wire.num 3 t.number ++ Wire.list lineEntryFields t.lines) s

/-- QUERY_TICKET (02 R44). -/
def execQueryTicket (p : Port) (fields : List Byte) (s : State) : Result :=
  takeRequest 0x50 anyRole Decode.queryTicket queryTicketReply p fields s

/-- A ticket put into a list in ascending order of number. -/
def insertTicket (t : Ticket) : List Ticket → List Ticket
  | [] => [t]
  | u :: rest => if t.number ≤ u.number then t :: u :: rest else u :: insertTicket t rest

/-- 02 R45: the tickets that match, in ascending order of number. -/
def State.matching (s : State) (r : ListTicketsReq) : List Ticket :=
  ((entries s.tickets).filter fun t => decide (r.after < t.number) && r.filter.all (· == t.state)).foldr insertTicket []

/-- 02 R45: one entry of the listing. -/
def listEntryFields (t : Ticket) : List Byte :=
  Wire.num 3 t.number ++ Wire.ticketState t.state ++ Wire.optBridge t.pending ++ Wire.optText t.vehicle
    ++ Wire.optNum 4 (t.settlement.map (·.figures.amount))

/-- LIST-TICKETS handed to the ticket table (02 R45). -/
def listTicketsReply (_p : Port) (r : ListTicketsReq) (s : State) : Reply :=
  let found := s.matching r
  .done (Wire.list listEntryFields (found.take 8) ++ Wire.flag (decide (8 < found.length))) s

/-- LIST_TICKETS (02 R45). -/
def execListTickets (p : Port) (fields : List Byte) (s : State) : Result :=
  takeRequest 0x51 anyRole Decode.listTickets listTicketsReply p fields s

end Sys2Proof.Machine
end

