-- ==== Sys2Proof/Machine/Totals.lean ====
section
/-! DEFINITION. DAY-CLOSE and the queries of the journal and the totals (08_journal_totals_and_day_close.md). -/

namespace Sys2Proof.Machine

/-- 08 R160: the business day after `n`, with 65,535 followed by 1. -/
def nextBusinessDay (n : Nat) : Nat := if n < 65535 then n + 1 else 1

/-- 08 R162 stage 3: the day totals cleared, the business day advanced, since now. -/
def clearedDay (d : DayTotals) (now : Option Stamp) : DayTotals :=
  { firstDay with businessDay := nextBusinessDay d.businessDay, since := now, storeLost := false }

/-- 03 R53: the three day totals of an entry set to 0. -/
def clearedGrade (g : Grade) : Grade := { g with dayLines := 0, dayKg := 0, dayValue := 0 }

/-- 02 R43: a ticket that a close frees. -/
def Ticket.finished (t : Ticket) : Bool := t.state == .paid || t.state == .void

/-- 02 R43: every slot holding a PAID or VOID ticket made FREE. -/
def freeFinished (tickets : List (Option Ticket)) : List (Option Ticket) :=
  tickets.map fun slot => slot.filter fun t => !t.finished

/-- 08 R162: the close, from the day snapshot to the emptying of the seller cash map. -/
def State.closeDay (s : State) (p : Port) : State :=
  let s := s.enqueue p (newJob .dayReport p s.snapDay none)
  { s with
    day := clearedDay s.day s.stamp
    grand := { s.grand with daysClosed := satAdd s.grand.daysClosed 1 }
    grades := s.grades.map clearedGrade
    tickets := freeFinished s.tickets
    sellers := [] }

/-- DAY-CLOSE handed to its blocks (08 R161, R162). -/
def dayCloseReply (p : Port) (_ : Unit) (s : State) : Reply :=
  if s.tills.toList.any (·.isOpen) then .refuse .tillsOpen
  else match s.queueRefusal p with
    | some code => .refuse code
    | none =>
      let s' := s.closeDay p
      .done (Wire.num 2 s.day.businessDay ++ Wire.num 2 s'.day.businessDay
        ++ Wire.num 1 ((entries s.tickets).countP Ticket.finished) ++ Wire.num 1 (entries s'.tickets).length
        ++ Wire.num 1 (s'.queuePosition p)) s'

/-- DAY_CLOSE (08 R162). -/
def execDayClose (p : Port) (fields : List Byte) (s : State) : Result :=
  takeRequest 0x3B onlyOffice Decode.noFields dayCloseReply p fields s

/-- 08 R151, R165: the fields of a journal entry. -/
def entryFields (e : JournalEntry) : List Byte :=
  Wire.num 4 e.serial ++ Wire.jobKind e.kind ++ Wire.optNum 3 e.ticket ++ Wire.optNum 1 (e.till.map Fin.val)
    ++ Wire.optNum 4 e.copyOf ++ Wire.optNum 4 e.amount ++ Wire.num 1 e.port.val ++ Wire.journalOutcome e.outcome
    ++ Wire.num 1 e.restarts

/-- 08 R165: the answer fields of QUERY-JOURNAL for an entry. -/
def State.journalFields (s : State) (e : JournalEntry) : List Byte :=
  entryFields e ++ Wire.num 2 s.journal.length ++ Wire.num 4 ((s.journal.head?.map (·.serial)).getD 0) ++ Wire.num 4 s.serialCounter

/-- QUERY-JOURNAL handed to the journal (08 R165). -/
def queryJournalReply (_p : Port) (r : QueryJournalReq) (s : State) : Reply :=
  match r with
  | .serial n =>
    match s.journal.find? (·.serial == n) with
    | none => .refuse .notFound
    | some e => .done (s.journalFields e) s
  | .newest =>
    match s.journal.getLast? with
    | none => .refuse .notFound
    | some e => .done (s.journalFields e) s

/-- QUERY_JOURNAL (08 R165). -/
def execQueryJournal (p : Port) (fields : List Byte) (s : State) : Result :=
  takeRequest 0x57 anyRole Decode.queryJournal queryJournalReply p fields s

/-- 08 R166: one grade row. -/
def gradeRowFields (r : GradeRow) : List Byte :=
  Wire.num 1 r.index ++ Wire.text r.name ++ Wire.num 5 r.lines ++ Wire.num 5 r.kg ++ Wire.num 5 r.value

/-- 08 R157, R166: the fields of the day totals. -/
def dayTotalsFields (d : DayTotals) : List Byte :=
  Wire.num 2 d.businessDay ++ Wire.optStamp d.since ++ Wire.flag d.storeLost ++ Wire.num 5 d.opened ++ Wire.num 5 d.settled
    ++ Wire.num 5 d.paidCash ++ Wire.num 5 d.paidVoucher ++ Wire.num 5 d.voided ++ Wire.num 5 d.cashTotal
    ++ Wire.num 5 d.voucherTotal ++ Wire.signed d.roundingTotal ++ Wire.num 5 d.completed ++ Wire.num 5 d.interrupted
    ++ Wire.num 5 d.abandoned

/-- 08 R166: the answer fields of QUERY-TOTALS DAY from a grade start index. -/
def State.dayAnswerFields (s : State) (start : Nat) : List Byte :=
  let rows := s.gradeRows.filter fun r => decide (start ≤ r.index)
  dayTotalsFields s.day ++ Wire.list gradeRowFields (rows.take 4) ++ Wire.flag (decide (4 < rows.length))

/-- 08 R166: the number of open-serial fields that hold a serial. -/
def State.openSerialCount (s : State) : Nat := s.openSerials.toList.countP Option.isSome

/-- 08 R166: the answer fields of QUERY-TOTALS GRAND. -/
def State.grandFields (s : State) : List Byte :=
  Wire.num 5 s.grand.daysClosed ++ Wire.num 5 s.grand.payableKg ++ Wire.num 5 s.grand.amountPaid ++ Wire.num 5 s.grand.completed
    ++ Wire.num 5 s.grand.interrupted ++ Wire.num 5 s.grand.abandoned ++ Wire.num 1 s.openSerialCount ++ Wire.num 4 s.serialCounter

/-- QUERY-TOTALS handed to the totals (08 R166). -/
def queryTotalsReply (_p : Port) (r : QueryTotalsReq) (s : State) : Reply :=
  match r with
  | .day start => .done (s.dayAnswerFields start) s
  | .grand => .done s.grandFields s

/-- QUERY_TOTALS (08 R166). -/
def execQueryTotals (p : Port) (fields : List Byte) (s : State) : Result :=
  takeRequest 0x58 anyRole Decode.queryTotals queryTotalsReply p fields s

end Sys2Proof.Machine
end

