-- ==== Sys2Proof/Machine/Receivers.lean ====
section
/-! DEFINITION. The byte receivers: a console port's (10 R182, R183) and a weigh link's (11 R200). The byte that completes
a frame does what the frame's own command does (log 6). -/

namespace Sys2Proof.Machine

/-- 11 R198: the meaning of a good console frame, by its class byte. -/
def requestMeaning (p : Port) (cls : Byte) (fields : List Byte) (s : State) : Result :=
  match cls.toNat with
  | 0x01 => execAbort p fields s
  | 0x02 => execQueryStatus p fields s
  | 0x10 => execOpenTicket p fields s
  | 0x11 => execWeighDrop p fields s
  | 0x12 => execWeighTare p fields s
  | 0x13 => execStoreTare p fields s
  | 0x14 => execApplyStoredTare p fields s
  | 0x15 => execZero p fields s
  | 0x16 => execSetDeduction p fields s
  | 0x17 => execSetParty p fields s
  | 0x20 => execOpenTill p fields s
  | 0x21 => execLoadCash p fields s
  | 0x22 => execCloseTill p fields s
  | 0x23 => execPay p fields s
  | 0x24 => execForceCloseTill p fields s
  | 0x25 => execSetPayoutLimits p fields s
  | 0x30 => execSetGrade p fields s
  | 0x31 => execRemoveGrade p fields s
  | 0x32 => execDeleteTare p fields s
  | 0x33 => execSetTareValidity p fields s
  | 0x34 => execSetBridge p fields s
  | 0x35 => execSetHeaderLine p fields s
  | 0x36 => execSetHeaderCell p fields s
  | 0x37 => execSetPrinter p fields s
  | 0x38 => execSetClock p fields s
  | 0x39 => execAlignMinute p fields s
  | 0x3A => execVoidTicket p fields s
  | 0x3B => execDayClose p fields s
  | 0x40 => execCopy p fields s
  | 0x41 => execDiscardJob p fields s
  | 0x50 => execQueryTicket p fields s
  | 0x51 => execListTickets p fields s
  | 0x52 => execQueryBridge p fields s
  | 0x53 => execQueryGrade p fields s
  | 0x54 => execQueryTare p fields s
  | 0x55 => execQueryTill p fields s
  | 0x56 => execQueryPrinter p fields s
  | 0x57 => execQueryJournal p fields s
  | 0x58 => execQueryTotals p fields s
  | _ => execBadClass p cls s

/-- 10 R183, R187 steps 1 and 2: a complete frame, with its body and whether its check is good. A body has at least its
class byte, since N is at least 1. -/
def frameMeaning (p : Port) (body : List Byte) (good : Bool) (s : State) : Result :=
  match body with
  | [] => .next (s.idleReceiver p)
  | cls :: fields => if good then requestMeaning p cls fields s else execBadFrame p cls s

/-- The receiver of port `p` in state `rx` with its timer started. -/
def State.receiving (s : State) (p : Port) (rx : Receiver) : State :=
  s.setConsole p { s.console p with rx, interByteTimer := true }

/-- CONSOLE_RECEIVED_BYTE (10 R182, R183): ignored on an OFF port (R181) and while main reset is asserted (R180). -/
def execConsoleReceivedByte (p : Port) (b : Byte) (s : State) : Result :=
  if s.hears p then
    match (s.console p).rx with
    | .idle => .next (if b = 0xA6#8 then s.receiving p .length else s)
    | .length => .next (if 1 ≤ b.toNat ∧ b.toNat ≤ 250 then s.receiving p (.body b.toNat [] b.toNat) else s.idleReceiver p)
    | .body n bytes sum =>
      .next (s.receiving p (if bytes.length + 1 < n then .body n (bytes ++ [b]) (sum + b.toNat)
        else .check n (bytes ++ [b]) (sum + b.toNat)))
    | .check _ bytes sum => frameMeaning p bytes (Decode.consoleCheckGood sum b) s
  else .next s

/-- INDICATOR_RECEIVED_BYTE (11 R200): the fifth data byte completes the frame. -/
def execIndicatorReceivedByte (b : BridgeId) (x : Byte) (s : State) : Result :=
  if s.inReset then .next s
  else match (s.bridge b).rx with
    | .hunting => .next (if x = 0x7E#8 then s.setBridge b { s.bridge b with rx := .collecting [] } else s)
    | .collecting bytes =>
      match bytes with
      | [hi, mid, lo, status] =>
        if Decode.sampleCheckGood [hi, mid, lo, status, x] then execSampleEvent b (Decode.rawWeight hi mid lo) status s
        else execBadSampleFrame b s
      | _ => .next (s.setBridge b { s.bridge b with rx := .collecting (bytes ++ [x]) })

end Sys2Proof.Machine
end

