-- ==== Sys2Proof/Machine/Supply.lean ====
section
/-! DEFINITION. The supply and reset control (11 R202 to R204): assertion and release of the main reset, backup power-on
reset, the strap latches, and the levels of the output pins. -/

namespace Sys2Proof.Machine

/-! ### Assertion (11 R202) -/

/-- 01 R2, R19: the live state of a weigh link lost; the beams keep their place until the release reads them. -/
def Bridge.lost (br : Bridge) : Bridge := resetBridge br.config br.entryBeam br.exitBeam

/-- 10 R195: a console port stopped; its role is held until the next release (11 R204). -/
def Console.lost (c : Console) : Console := resetConsole c.role

/-- 07 R130, R146: a printer port stopped, its queue and list lost; its presence is held until the next release. -/
def Printer.lost (x : Printer) : Printer :=
  { x with state := if x.present then .unknown else .absent, fault := none, lineTimer := none, queue := [], rendered := none,
           sent := [] }

/-- 02 R25: the pending mark of every ticket cleared. -/
def clearMarks (tickets : List (Option Ticket)) : List (Option Ticket) :=
  tickets.map (Option.map fun t => { t with pending := none })

/-- 11 R202: the main-domain state of every block lost; the backup domain keeps its contents. -/
def State.loseMain (s : State) : State :=
  { s with
    consoles := Four.ofFn fun p => (s.console p).lost
    bridges := Pair.ofFn fun b => (s.bridge b).lost
    printers := Four.ofFn fun p => (s.printer p).lost
    tickets := clearMarks s.tickets }

/-- 11 R202: the cause of an assertion recorded. -/
def State.assertBy (s : State) (cause : ResetCause) : State :=
  match cause with
  | .resetN => { s with resetByPin := true }
  | .vcore => { s with resetBySupply := true }

/-- MAIN_RESET (11 R202): a second condition adds nothing while the first holds. -/
def execMainReset (cause : ResetCause) (s : State) : Result :=
  .next (if s.inReset then s.assertBy cause else s.loseMain.assertBy cause)

/-! ### Release (11 R202, R204) -/

/-- 10 R181: the role of two straps. -/
def roleOfStraps (straps : Bool × Bool) : Role :=
  match straps with
  | (false, false) => .off
  | (false, true) => .weigh
  | (true, false) => .pay
  | (true, true) => .office

/-- 08 R154: the open serial of a port, if any, made INTERRUPTED and counted. -/
def State.interrupt (s : State) (p : Port) : State :=
  match s.openSerials.get p with
  | none => s
  | some serial => s.endReceipt p serial .interrupted

/-- 11 R202: every block brought up, with the pins as they stand. -/
def State.release (s : State) (pins : ReleasePins) : State :=
  let s := (((s.interrupt 0).interrupt 1).interrupt 2).interrupt 3
  { s with
    resetByPin := false
    resetBySupply := false
    consoles := Four.ofFn fun p => resetConsole (roleOfStraps (pins.consoleStraps.get p))
    bridges := Pair.ofFn fun b =>
      resetBridge (s.bridge b).config (beamOfLevel (pins.entryBeams.get b)) (beamOfLevel (pins.exitBeams.get b))
    printers := Four.ofFn fun p => releasedPrinter (pins.printerStraps.get p) (s.printer p).width (s.printer p).timeout
    tickets := clearMarks s.tickets }

/-- MAIN_RESET_RELEASE (11 R202). Without an asserted reset there is no release (log 4). -/
def execMainResetRelease (pins : ReleasePins) (s : State) : Result :=
  .next (if s.inReset then s.release pins else s)

/-! ### Backup power-on reset (11 R203) -/

/-- 11 R203: every backup-domain record at its power-on value. -/
def State.backupDefaults (s : State) : State :=
  { s with
    bridges := Pair.ofFn fun b => { s.bridge b with config := defaultConfig }
    tickets := List.replicate Config.slots none
    ticketCounter := 1
    grades := List.replicate Config.gradeEntries emptyGrade
    tares := List.replicate Config.tarePositions none
    tareValidity := 90
    tills := ⟨closedTill, closedTill, closedTill, closedTill⟩
    sellers := []
    limits := defaultLimits
    header := blankHeader
    printers := Four.ofFn fun p => { s.printer p with width := 40, timeout := 3 }
    journal := []
    serialCounter := 1
    openSerials := ⟨none, none, none, none⟩
    day := firstDay
    grand := zeroGrand
    clock := startClock }

/-- BACKUP_POWER_ON_RESET (11 R203): it always comes with a main reset, asserted by VCORE. -/
def execBackupPowerOnReset (s : State) : Result :=
  .next ((if s.inReset then s.assertBy .vcore else s.loseMain.assertBy .vcore).backupDefaults)

/-! ### Output pins (11 section 11.5, R202) -/

/-- What an output pin does: high-impedance, a level, or the characters of the frames and messages of its line. A CBUSY pin
of high impedance is held low by its pull-down, a transmit pin of high impedance idles high by its pull-up. -/
inductive PinDrive where
  | highZ
  | low
  | high
  | serial   -- high between characters; the bits within one are not held (log 9)
deriving DecidableEq, Repr

/-- 10 R180, R190, 11 R202: CBUSYk. -/
def State.busyPin (s : State) (p : Port) : PinDrive :=
  if s.inReset then .highZ else if (s.console p).busy then .high else .low

/-- 11 R202: CTXDk and PTXDk are high-impedance while main reset is asserted. -/
def State.transmitPinsDriven (s : State) : Bool := !s.inReset

/-- 10 R180, R181, R194, 11 R202: CTXDk. It is high on an OFF port; high also while the transmitter of another port is idle
(log 23); and it carries the oldest answer while that is sent. -/
def State.consoleTransmitPin (s : State) (p : Port) : PinDrive :=
  if !s.transmitPinsDriven then .highZ
  else if (s.console p).role = .off ∨ (s.console p).tx = .idle then .high
  else .serial

/-- 07 R128, R146, R147, 11 R202: PTXDk. It idles on an ABSENT port, at the high level (log 23); on a present one it carries
the messages. -/
def State.printerTransmitPin (s : State) (p : Port) : PinDrive :=
  if !s.transmitPinsDriven then .highZ
  else if (s.printer p).present then .serial
  else .high

end Sys2Proof.Machine
end

