-- ==== Sys2Proof/Machine/Dispatch.lean ====
section
/-! DEFINITION. The meaning of each command, one arm for each constructor of `Instr`. -/

namespace Sys2Proof.Machine

/-- The meaning of a command: its effect on everything but the queue. -/
def exec (i : Instr) (s : State) : Host.Outcome State Fault Refusal :=
  match i with
  | .abort port fields => Sys2Proof.Machine.execAbort port fields s
  | .queryStatus port fields => Sys2Proof.Machine.execQueryStatus port fields s
  | .openTicket port fields => Sys2Proof.Machine.execOpenTicket port fields s
  | .weighDrop port fields => Sys2Proof.Machine.execWeighDrop port fields s
  | .weighTare port fields => Sys2Proof.Machine.execWeighTare port fields s
  | .storeTare port fields => Sys2Proof.Machine.execStoreTare port fields s
  | .applyStoredTare port fields => Sys2Proof.Machine.execApplyStoredTare port fields s
  | .zero port fields => Sys2Proof.Machine.execZero port fields s
  | .setDeduction port fields => Sys2Proof.Machine.execSetDeduction port fields s
  | .setParty port fields => Sys2Proof.Machine.execSetParty port fields s
  | .openTill port fields => Sys2Proof.Machine.execOpenTill port fields s
  | .loadCash port fields => Sys2Proof.Machine.execLoadCash port fields s
  | .closeTill port fields => Sys2Proof.Machine.execCloseTill port fields s
  | .pay port fields => Sys2Proof.Machine.execPay port fields s
  | .forceCloseTill port fields => Sys2Proof.Machine.execForceCloseTill port fields s
  | .setPayoutLimits port fields => Sys2Proof.Machine.execSetPayoutLimits port fields s
  | .setGrade port fields => Sys2Proof.Machine.execSetGrade port fields s
  | .removeGrade port fields => Sys2Proof.Machine.execRemoveGrade port fields s
  | .deleteTare port fields => Sys2Proof.Machine.execDeleteTare port fields s
  | .setTareValidity port fields => Sys2Proof.Machine.execSetTareValidity port fields s
  | .setBridge port fields => Sys2Proof.Machine.execSetBridge port fields s
  | .setHeaderLine port fields => Sys2Proof.Machine.execSetHeaderLine port fields s
  | .setHeaderCell port fields => Sys2Proof.Machine.execSetHeaderCell port fields s
  | .setPrinter port fields => Sys2Proof.Machine.execSetPrinter port fields s
  | .setClock port fields => Sys2Proof.Machine.execSetClock port fields s
  | .alignMinute port fields => Sys2Proof.Machine.execAlignMinute port fields s
  | .voidTicket port fields => Sys2Proof.Machine.execVoidTicket port fields s
  | .dayClose port fields => Sys2Proof.Machine.execDayClose port fields s
  | .copy port fields => Sys2Proof.Machine.execCopy port fields s
  | .discardJob port fields => Sys2Proof.Machine.execDiscardJob port fields s
  | .queryTicket port fields => Sys2Proof.Machine.execQueryTicket port fields s
  | .listTickets port fields => Sys2Proof.Machine.execListTickets port fields s
  | .queryBridge port fields => Sys2Proof.Machine.execQueryBridge port fields s
  | .queryGrade port fields => Sys2Proof.Machine.execQueryGrade port fields s
  | .queryTare port fields => Sys2Proof.Machine.execQueryTare port fields s
  | .queryTill port fields => Sys2Proof.Machine.execQueryTill port fields s
  | .queryPrinter port fields => Sys2Proof.Machine.execQueryPrinter port fields s
  | .queryJournal port fields => Sys2Proof.Machine.execQueryJournal port fields s
  | .queryTotals port fields => Sys2Proof.Machine.execQueryTotals port fields s
  | .badFrame port cls => Sys2Proof.Machine.execBadFrame port cls s
  | .badClass port cls => Sys2Proof.Machine.execBadClass port cls s
  | .interByteTimeout port => Sys2Proof.Machine.execInterByteTimeout port s
  | .breakCondition port => Sys2Proof.Machine.execBreakCondition port s
  | .answerTransmitted port => Sys2Proof.Machine.execAnswerTransmitted port s
  | .sampleEvent bridge raw status => Sys2Proof.Machine.execSampleEvent bridge raw status s
  | .badSampleFrame bridge => Sys2Proof.Machine.execBadSampleFrame bridge s
  | .sampleGapTimeout bridge => Sys2Proof.Machine.execSampleGapTimeout bridge s
  | .staleTimerExpiry bridge => Sys2Proof.Machine.execStaleTimerExpiry bridge s
  | .beamEvent bridge which high => Sys2Proof.Machine.execBeamEvent bridge which high s
  | .motionDeadline bridge => Sys2Proof.Machine.execMotionDeadline bridge s
  | .statusReady port => Sys2Proof.Machine.execStatusReady port s
  | .statusDone port => Sys2Proof.Machine.execStatusDone port s
  | .statusBusy port => Sys2Proof.Machine.execStatusBusy port s
  | .faultByte port reason => Sys2Proof.Machine.execFaultByte port reason s
  | .lineTimerExpiry port => Sys2Proof.Machine.execLineTimerExpiry port s
  | .jobStart port => Sys2Proof.Machine.execJobStart port s
  | .secondBoundary => Sys2Proof.Machine.execSecondBoundary s
  | .mainReset cause => Sys2Proof.Machine.execMainReset cause s
  | .mainResetRelease pins => Sys2Proof.Machine.execMainResetRelease pins s
  | .backupPowerOnReset => Sys2Proof.Machine.execBackupPowerOnReset s
  | .consoleReceivedByte port byte => Sys2Proof.Machine.execConsoleReceivedByte port byte s
  | .indicatorReceivedByte bridge byte => Sys2Proof.Machine.execIndicatorReceivedByte bridge byte s

end Sys2Proof.Machine
end

