-- ==== Sys2Proof/WellFormed.lean ====
section
/-! DEFINITION. The commands that can stand for an event of the part: a request's body fits a frame, and a BAD_CLASS
frame's class byte names no request. Ports, bridges, bytes and levels are well formed by their types. -/

namespace Sys2Proof

/-- The most field bytes a frame carries: N is at most 250 and the class byte is one of them (10 R182). -/
abbrev maxFieldBytes : Nat := 249

/-- The field bytes of a request; `none` for a command that is no request. -/
def Instr.requestFields : Instr → Option (List Byte)
  | .abort _ f | .queryStatus _ f | .openTicket _ f | .weighDrop _ f | .weighTare _ f | .storeTare _ f
  | .applyStoredTare _ f | .zero _ f | .setDeduction _ f | .setParty _ f | .openTill _ f | .loadCash _ f
  | .closeTill _ f | .pay _ f | .forceCloseTill _ f | .setPayoutLimits _ f | .setGrade _ f | .removeGrade _ f
  | .deleteTare _ f | .setTareValidity _ f | .setBridge _ f | .setHeaderLine _ f | .setHeaderCell _ f
  | .setPrinter _ f | .setClock _ f | .alignMinute _ f | .voidTicket _ f | .dayClose _ f | .copy _ f
  | .discardJob _ f | .queryTicket _ f | .listTickets _ f | .queryBridge _ f | .queryGrade _ f | .queryTare _ f
  | .queryTill _ f | .queryPrinter _ f | .queryJournal _ f | .queryTotals _ f => some f
  | .badFrame _ _ | .badClass _ _ | .interByteTimeout _ | .breakCondition _ | .answerTransmitted _
  | .sampleEvent _ _ _ | .badSampleFrame _ | .sampleGapTimeout _ | .staleTimerExpiry _ | .beamEvent _ _ _
  | .motionDeadline _ | .statusReady _ | .statusDone _ | .statusBusy _ | .faultByte _ _ | .lineTimerExpiry _
  | .jobStart _ | .secondBoundary | .mainReset _ | .mainResetRelease _ | .backupPowerOnReset
  | .consoleReceivedByte _ _ | .indicatorReceivedByte _ _ => none

/-- The class byte of a BAD_CLASS frame; `none` for any other command. -/
def Instr.unnamedClass : Instr → Option Byte
  | .badClass _ cls => some cls
  | _ => none

/-- A command that an event of the part can be (10 R182, R187). `exec` is total all the same. -/
def Instr.wellFormed (i : Instr) : Bool :=
  i.requestFields.all (fun f => decide (f.length ≤ maxFieldBytes))
  && i.unnamedClass.all (fun cls => !Decode.namesRequest cls)

end Sys2Proof
end

