-- ==== Sys2Proof/Safety.lean ====
section
/-! DEFINITION. What a safe state of the part is, record by record (the laws that the manual states of every state), and
the terms the claims use: a port that takes a request, an answered port, the manual's ordered tables of checks, and the
results of settlement, payment and printing written out from their rules. No meaning calls anything of this file. -/

namespace Sys2Proof

/-! ### What a command is -/

/-- The console port that a frame, a received byte or a line condition belongs to (10 R182 to R187). -/
def Instr.receivePort : Instr → Option Port
  | .abort p _ | .queryStatus p _ | .openTicket p _ | .weighDrop p _ | .weighTare p _ | .storeTare p _
  | .applyStoredTare p _ | .zero p _ | .setDeduction p _ | .setParty p _ | .openTill p _ | .loadCash p _
  | .closeTill p _ | .pay p _ | .forceCloseTill p _ | .setPayoutLimits p _ | .setGrade p _ | .removeGrade p _
  | .deleteTare p _ | .setTareValidity p _ | .setBridge p _ | .setHeaderLine p _ | .setHeaderCell p _
  | .setPrinter p _ | .setClock p _ | .alignMinute p _ | .voidTicket p _ | .dayClose p _ | .copy p _
  | .discardJob p _ | .queryTicket p _ | .listTickets p _ | .queryBridge p _ | .queryGrade p _ | .queryTare p _
  | .queryTill p _ | .queryPrinter p _ | .queryJournal p _ | .queryTotals p _ | .badFrame p _ | .badClass p _
  | .interByteTimeout p | .breakCondition p | .consoleReceivedByte p _ => some p
  | .answerTransmitted _ | .sampleEvent _ _ _ | .badSampleFrame _ | .sampleGapTimeout _ | .staleTimerExpiry _
  | .beamEvent _ _ _ | .motionDeadline _ | .statusReady _ | .statusDone _ | .statusBusy _ | .faultByte _ _
  | .lineTimerExpiry _ | .jobStart _ | .secondBoundary | .mainReset _ | .mainResetRelease _ | .backupPowerOnReset
  | .indicatorReceivedByte _ _ => none

/-- The command is a complete frame: a request, BAD_FRAME or BAD_CLASS (10 R183). -/
def Instr.isFrame : Instr → Bool
  | .interByteTimeout _ | .breakCondition _ | .consoleReceivedByte _ _ => false
  | c => c.receivePort.isSome

/-- The printer port that a status byte, the line timer or a job start belongs to (07 R129, R130, R133). -/
def Instr.printerPort : Instr → Option Port
  | .statusReady p | .statusDone p | .statusBusy p | .faultByte p _ | .lineTimerExpiry p | .jobStart p => some p
  | .abort _ _ | .queryStatus _ _ | .openTicket _ _ | .weighDrop _ _ | .weighTare _ _ | .storeTare _ _
  | .applyStoredTare _ _ | .zero _ _ | .setDeduction _ _ | .setParty _ _ | .openTill _ _ | .loadCash _ _
  | .closeTill _ _ | .pay _ _ | .forceCloseTill _ _ | .setPayoutLimits _ _ | .setGrade _ _ | .removeGrade _ _
  | .deleteTare _ _ | .setTareValidity _ _ | .setBridge _ _ | .setHeaderLine _ _ | .setHeaderCell _ _
  | .setPrinter _ _ | .setClock _ _ | .alignMinute _ _ | .voidTicket _ _ | .dayClose _ _ | .copy _ _
  | .discardJob _ _ | .queryTicket _ _ | .listTickets _ _ | .queryBridge _ _ | .queryGrade _ _ | .queryTare _ _
  | .queryTill _ _ | .queryPrinter _ _ | .queryJournal _ _ | .queryTotals _ _ | .badFrame _ _ | .badClass _ _
  | .interByteTimeout _ | .breakCondition _ | .consoleReceivedByte _ _ | .answerTransmitted _ | .sampleEvent _ _ _
  | .badSampleFrame _ | .sampleGapTimeout _ | .staleTimerExpiry _ | .beamEvent _ _ _ | .motionDeadline _ | .secondBoundary
  | .mainReset _ | .mainResetRelease _ | .backupPowerOnReset | .indicatorReceivedByte _ _ => none

/-- The resets, their release and the clock's second boundary: what the part takes while main reset is asserted
(11 R202). -/
def Instr.actsInReset : Instr → Bool
  | .secondBoundary | .mainReset _ | .mainResetRelease _ | .backupPowerOnReset => true
  | _ => false

/-- 10 R188: the roles the table permits to a class. -/
def permittedRoles (cls : Byte) : List Role :=
  if cls ∈ [0x10#8, 0x11#8, 0x12#8, 0x13#8, 0x14#8, 0x15#8, 0x16#8] then [.weigh]
  else if cls = 0x17#8 then [.weigh, .pay]
  else if cls ∈ [0x20#8, 0x21#8, 0x22#8, 0x23#8] then [.pay]
  else if cls ∈ [0x24#8, 0x25#8, 0x30#8, 0x31#8, 0x32#8, 0x33#8, 0x34#8, 0x35#8, 0x36#8, 0x37#8, 0x38#8, 0x39#8, 0x3A#8, 0x3B#8]
    then [.office]
  else [.weigh, .pay, .office]

/-- 10 R189: the fields decode as those of the class, each in its range. -/
def bodyDecodes (cls : Byte) (fields : List Byte) : Bool :=
  match cls.toNat with
  | 0x10 => (Decode.openTicket fields).isSome
  | 0x11 | 0x12 => (Decode.weigh fields).isSome
  | 0x13 => (Decode.storeTare fields).isSome
  | 0x14 => (Decode.applyTare fields).isSome
  | 0x15 | 0x52 => (Decode.bridgeOnly fields).isSome
  | 0x16 => (Decode.setDeduction fields).isSome
  | 0x17 => (Decode.setParty fields).isSome
  | 0x20 => (Decode.openTill fields).isSome
  | 0x21 => (Decode.loadCash fields).isSome
  | 0x22 => (Decode.closeTill fields).isSome
  | 0x23 => (Decode.pay fields).isSome
  | 0x24 | 0x55 | 0x56 => (Decode.portOnly fields).isSome
  | 0x25 => (Decode.setPayoutLimits fields).isSome
  | 0x30 => (Decode.setGrade fields).isSome
  | 0x31 => (Decode.removeGrade fields).isSome
  | 0x32 => (Decode.deleteTare fields).isSome
  | 0x33 => (Decode.setTareValidity fields).isSome
  | 0x34 => (Decode.setBridge fields).isSome
  | 0x35 => (Decode.setHeaderLine fields).isSome
  | 0x36 => (Decode.setHeaderCell fields).isSome
  | 0x37 => (Decode.setPrinter fields).isSome
  | 0x38 => (Decode.setClock fields).isSome
  | 0x3A | 0x40 => (Decode.ticketOnly fields).isSome
  | 0x50 => (Decode.queryTicket fields).isSome
  | 0x51 => (Decode.listTickets fields).isSome
  | 0x53 => (Decode.queryGrade fields).isSome
  | 0x54 => (Decode.queryTare fields).isSome
  | 0x57 => (Decode.queryJournal fields).isSome
  | 0x58 => (Decode.queryTotals fields).isSome
  | _ => fields.isEmpty

end Sys2Proof

namespace Sys2Proof.Machine

/-! ### Fields in their ranges -/

/-- A ticket number or seller id, 1 to 999,999 (02 R23, R26). -/
abbrev numberFits (n : Nat) : Prop := 1 ≤ n ∧ n ≤ 999999

/-- A grade code, 1 to 9,999 (03 R46). -/
abbrev codeFits (n : Nat) : Prop := 1 ≤ n ∧ n ≤ 9999

/-- A vehicle id, 1 to 10 characters of A to Z, 0 to 9 and "-" (02 R23). -/
abbrev vehicleFits (v : Text) : Prop :=
  1 ≤ v.length ∧ v.length ≤ 10
    ∧ ∀ c ∈ v, 0x41 ≤ c.toNat ∧ c.toNat ≤ 0x5A ∨ 0x30 ≤ c.toNat ∧ c.toNat ≤ 0x39 ∨ c.toNat = 0x2D

/-- A grade name, at most 16 characters from 20h to 7Eh (03 R46). -/
abbrev nameFits (t : Text) : Prop := t.length ≤ 16 ∧ ∀ c ∈ t, 0x20 ≤ c.toNat ∧ c.toNat ≤ 0x7E

/-! ### A port that takes a request, and one that has answered -/

/-- 10 R186, R187: port `p` holds role `r`, has nothing in flight, and a place of its answer queue is free. -/
abbrev State.ReadyAs (s : State) (p : Port) (r : Role) : Prop :=
  s.inReset = false ∧ (s.console p).role = r ∧ r ≠ .off ∧ (s.console p).inFlight = none
    ∧ (s.console p).answers.length < Config.answerPlaces

/-- The same of a port of any role but OFF. -/
abbrev State.Ready (s : State) (p : Port) : Prop := s.ReadyAs p (s.console p).role

/-- 10 R182 to R185: a console port with its receiver back in IDLE and its timer stopped. -/
def Console.heard (c : Console) : Console := { c with rx := .idle, interByteTimer := false }

/-- 10 R194: a console port with answers queued at the tail; an idle transmitter begins the oldest. -/
def Console.queued (c : Console) (as : List Answer) : Console :=
  { c with answers := c.answers ++ as, tx := if c.tx = .idle then .sending 0 else c.tx }

/-- A frame of class `cls` was taken at port `p` and answered. -/
def State.answered (s : State) (p : Port) (cls : Byte) (r : ResultCode) (fields : List Byte) : State :=
  { s with consoles := s.consoles.set p ((s.console p).heard.queued [⟨cls, r, fields⟩]) }

/-- 10 R190: a weighing request of class `cls` was taken at port `p` and stays in flight at bridge `b`. -/
def State.flying (s : State) (p : Port) (cls : Byte) (b : BridgeId) : State :=
  { s with consoles := s.consoles.set p { (s.console p).heard with inFlight := some ⟨cls, b⟩, busy := true } }

/-- 10 R190: the weighing in flight at port `p`, of class `cls`, was answered; BUSY fell. -/
def State.landed (s : State) (p : Port) (cls : Byte) (r : ResultCode) (fields : List Byte) : State :=
  { s with consoles := s.consoles.set p ({ s.console p with inFlight := none, busy := false }.queued [⟨cls, r, fields⟩]) }

/-! ### The ordered checks of the requests -/

/-- The code of the first check that fails, of a table in its order. -/
def firstFailure : List (Bool × ResultCode) → Option ResultCode
  | [] => none
  | (fails, code) :: rest => if fails then some code else firstFailure rest

/-- 02 R26: the non-FREE ticket of a number. -/
def State.ticket (s : State) (n : Nat) : Option Ticket := (s.findTicket n).map Prod.snd

/-- 06 R109: the two checks of an obligatory job on port `p`. -/
def State.jobChecks (s : State) (p : Port) : List (Bool × ResultCode) :=
  [(!(s.printer p).present, .noPrinter), (decide (8 ≤ (s.printer p).queue.length), .queueFull)]

/-- 01 R13 steps 8 and 9. -/
def linkChecks (br : Bridge) : List (Bool × ResultCode) :=
  [(br.link == .down, .linkDown), (br.link == .fault, .scaleFault), (br.weighing.isSome, .bridgeBusy)]

/-- 01 R13, OPEN-TICKET from step 3. -/
def openTicketChecks (s : State) (r : OpenTicketReq) : List (Bool × ResultCode) :=
  ((entries s.tickets).length == s.tickets.length, .tableFull) :: linkChecks (s.bridge r.bridge)

/-- 01 R13, WEIGH-DROP and WEIGH-TARE from step 3. -/
def weighChecks (drop : Bool) (s : State) (r : WeighReq) : List (Bool × ResultCode) :=
  [((s.gradeIndex r.code).isNone, .notFound), ((s.ticket r.ticket).isNone, .notFound),
   ((s.ticket r.ticket).any (fun t => t.state != .loaded), .wrongState),
   ((s.ticket r.ticket).any (fun t => t.pending.isSome), .ticketBusy),
   (drop && (s.ticket r.ticket).any (fun t => decide (6 < t.weighings.length)), .lineLimit)] ++ linkChecks (s.bridge r.bridge)

/-- 01 R13, STORE-TARE from step 3. -/
def storeTareChecks (s : State) (r : StoreTareReq) : List (Bool × ResultCode) :=
  (!s.clock.valid, .clockInvalid) :: linkChecks (s.bridge r.bridge)

/-- 01 R10, with the whole-number form of step 4. R10 has no entry for a stable bridge without a reference, which no run
reaches; UNSTABLE is the model's choice (log 19). -/
def zeroChecks (br : Bridge) : List (Bool × ResultCode) :=
  linkChecks br ++
  [(!br.stable || br.reference.isNone, .unstable),
   (br.reference.any (fun r => decide ((br.config.capacity : Int) < 50 * |r - br.zeroOffset| ∨ (br.config.capacity : Int) < 25 * |r|)), .zeroRange)]

/-- 04 R78 from step 3. -/
def setDeductionChecks (s : State) (r : SetDeductionReq) : List (Bool × ResultCode) :=
  [((s.ticket r.ticket).isNone, .notFound), ((s.ticket r.ticket).any (fun t => t.pending.isSome), .ticketBusy),
   ((s.ticket r.ticket).any (fun t => t.state != .settled && t.state != .held), .wrongState),
   ((s.ticket r.ticket).any (fun t => decide (t.lines.length < r.line)), .notFound)]

/-- 02 R39 steps 3 and 4. -/
def setPartyChecks (s : State) (n : Nat) : List (Bool × ResultCode) :=
  [((s.ticket n).isNone, .notFound), ((s.ticket n).any (fun t => t.state == .paid || t.state == .void), .wrongState)]

/-- 02 R40 steps 3 to 5. -/
def voidChecks (s : State) (n : Nat) : List (Bool × ResultCode) :=
  setPartyChecks s n ++ [((s.ticket n).any (fun t => t.pending.isSome), .ticketBusy)]

/-- 03 R57 from step 3. -/
def applyTareChecks (s : State) (r : ApplyTareReq) : List (Bool × ResultCode) :=
  let t := s.ticket r.ticket
  let tare := (t.bind (·.vehicle)).bind fun v => (s.findTare v).map Prod.snd
  [((s.gradeIndex r.code).isNone, .notFound), (t.isNone, .notFound), (t.any (fun t => t.state != .loaded), .wrongState),
   (t.any (fun t => t.pending.isSome), .ticketBusy), (t.any (fun t => t.vehicle.isNone), .noVehicle), (tare.isNone, .notFound),
   (!s.clock.valid, .clockInvalid), (tare.any s.tareExpired, .tareExpired),
   (t.any (fun t => tare.any fun e => decide ((t.lastWeight : Int) - e.weight < (s.bridge e.bridge).config.division)), .loadNotLess)]

/-- 05 R90: the reason of a payment of `amount`, by the first line of the table that applies. -/
def paymentReason (s : State) (requested : Method) (amount seller : Nat) : Reason :=
  if requested = .voucher then .requested
  else if amount > s.limits.ceiling then .byCeiling
  else if s.limits.cap ≠ 0 ∧ (s.sellerCash seller).getD 0 + cashAmount amount s.limits.step > s.limits.cap then .byCap
  else if s.sellerCash seller = none ∧ s.sellers.length ≥ 128 then .byMapFull
  else .cash

/-- 05 R87, R88, R91: the checks of PAY after those of the console port. For states no run reaches the model chooses (log 19):
a HELD ticket without a release date under a valid clock is ON_HOLD, and a ticket without a settlement part has amount 0. -/
def payChecks (s : State) (p : Port) (r : PayReq) : List (Bool × ResultCode) :=
  let t := s.ticket r.ticket
  let amount := ((t.bind (·.settlement)).map (·.figures.amount)).getD 0
  let release := (t.bind (·.settlement)).bind (·.figures.release)
  [(t.isNone, .notFound), (t.any (fun t => t.state != .settled && t.state != .held), .wrongState),
   (t.any (fun t => t.seller.isNone), .noSeller), (t.any (fun t => t.state == .held) && !s.clock.valid, .clockInvalid),
   (t.any (fun t => t.state == .held) && (release.isNone || release.any (dateBefore s.today)), .onHold),
   (!(s.till p).isOpen, .tillClosed)] ++ s.jobChecks p ++
  [(t.any (fun t => t.seller.any fun seller =>
      paymentReason s r.method amount seller == .cash && decide ((s.till p).expected < cashAmount amount s.limits.step)), .tillShort)]

/-- 08 R161 from step 2. -/
def dayCloseChecks (s : State) (p : Port) : List (Bool × ResultCode) :=
  ((s.till 0).isOpen || (s.till 1).isOpen || (s.till 2).isOpen || (s.till 3).isOpen, .tillsOpen) :: s.jobChecks p

/-! ### Jobs -/

/-- 07 R132: the part with a new job at the tail of the queue of port `p`. -/
def State.withJob (s : State) (p : Port) (kind : JobKind) (snapshot : Snapshot) (copyOf : Option Nat) : State :=
  { s with printers := s.printers.set p { s.printer p with queue := (s.printer p).queue ++
      [{ kind, origin := p, snapshot, copyOf, state := .queued, serial := none, nextLine := none, restarts := 0 }] } }

/-- 06 R109: port `p` takes a job. -/
def State.room (s : State) (p : Port) : Bool := (s.printer p).present && decide ((s.printer p).queue.length < 8)

/-- 06 R109: an optional job is queued where there is room, and dropped where there is none. -/
def State.offered (s : State) (p : Port) (kind : JobKind) (snapshot : Snapshot) : State :=
  if s.room p then s.withJob p kind snapshot none else s

/-- 04 R75: the slip flag and the queue position of an optional job offered in state `s` to port `p`. -/
def State.slipBytes (s : State) (p : Port) : List Byte :=
  if s.room p then [0x00, BitVec.ofNat 8 ((s.printer p).queue.length + 1)] else [0x01, 0xFF]

/-- 07 R132: the queue position of an obligatory job queued in state `s` on port `p`. -/
def State.nextPosition (s : State) (p : Port) : List Byte := [BitVec.ofNat 8 ((s.printer p).queue.length + 1)]

/-! ### Samples and captures (01 R3, R6, R7, R14) -/

/-- 01 R3: a weigh link after a good frame, before its sample is counted; a link that was not LIVE loses its reference
(R5). -/
def Bridge.sampled (br : Bridge) (raw : Int) : Bridge :=
  { br with latest := some ⟨raw, false⟩, staleTimer := some br.config.staleTimeout, rx := .hunting, link := .live,
            reference := if br.link = .live then br.reference else none }

/-- 01 R6, R7: a weigh link after a counted sample. -/
def Bridge.counted (br : Bridge) (raw : Int) : Bridge :=
  { br with
    dividerCount := 0
    reference := some raw
    steady :=
      match br.reference with
      | none => 0
      | some r =>
        if br.config.positionCheck ∧ (br.entryBeam = .broken ∨ br.exitBeam = .broken) then 0
        else if |raw - r| ≤ br.config.band * br.config.division then min (br.steady + 1) 16 else 0 }

/-- 01 R14: the good sample `raw` is the counted sample at which the weighing `x` of bridge `b`, in flight from its
console with class `cls`, is captured. -/
abbrev State.Captures (s : State) (b : BridgeId) (raw : Int) (x : Weighing) (cls : Byte) : Prop :=
  s.inReset = false ∧ (s.bridge b).link = .live ∧ (s.bridge b).config.divider ≤ (s.bridge b).dividerCount + 1
    ∧ (s.bridge b).weighing = some x ∧ (((s.bridge b).sampled raw).counted raw).stable = true
    ∧ (s.console x.console).inFlight = some ⟨cls, b⟩

/-- 01 R14: bridge `b` after the capture: the sample counted, the weighing gone, the record overwritten. -/
def State.capturedBridge (s : State) (b : BridgeId) (raw w : Int) (purpose : Purpose) (ticket : Option Nat) (code : ResultCode) :
    Bridge :=
  { ((s.bridge b).sampled raw).counted raw with
    weighing := none, lastCapture := some ⟨w, if s.clock.valid then some s.clock.now else none, purpose, ticket, code⟩ }

/-- 04 R63 to R75: the ticket of slot `i` closed by its last weighing: settled, counted, its slip offered to port `p`. -/
def State.closed (s : State) (i : Nat) (t : Ticket) (p : Port) : State :=
  let s := { s.putTicket i t with day := { s.day with settled := satAdd s.day.settled 1 } }
  s.offered p .settleSlip (s.snapTicket t)

/-- 04 R75: the settlement outcome in an answer, for the ticket `t` whose slip was offered in state `s` to port `p`. -/
def State.outcomeFields (s : State) (p : Port) (t : Ticket) (f : SettlementFigures) : List Byte :=
  Wire.ticketState t.state ++ Wire.num 5 f.exact ++ Wire.num 4 f.amount ++ Wire.num 1 f.holdDays ++ Wire.optDate f.release
    ++ s.slipBytes p

/-! ### Days and seconds counted from 2000-01-01 00:00:00 (09 R169, R173) -/

/-- Days before the first of a month in a common year. -/
def daysBeforeMonth (month : Nat) : Nat :=
  ([0, 31, 59, 90, 120, 151, 181, 212, 243, 273, 304, 334][month - 1]?).getD 0

/-- Days from 2000-01-01 to a date of 2000 to 2099. -/
def dayNumber (d : Date) : Nat :=
  365 * (d.year - 2000) + (d.year - 2000 + 3) / 4 + daysBeforeMonth d.month
    + (if 2 < d.month ∧ d.year % 4 = 0 then 1 else 0) + (d.day - 1)

/-- The days of the calendar, 2000-01-01 to 2099-12-31. -/
abbrev calendarDays : Nat := 36525

/-- Seconds from 2000-01-01 00:00:00. -/
def secondNumber (s : Stamp) : Nat :=
  86400 * dayNumber s.date + 3600 * s.time.hour + 60 * s.time.minute + s.time.second

/-! ### Safe states: consoles -/

/-- 10 R182, R183: a frame in progress is as its bytes make it. -/
def Receiver.Sound : Receiver → Bool
  | .idle => true
  | .length => true
  | .body n bytes sum =>
    decide (bytes.length < n) && decide (n ≤ 250) && decide (sum = n + (bytes.map BitVec.toNat).sum)
  | .check n bytes sum =>
    decide (bytes.length = n) && decide (1 ≤ n) && decide (n ≤ 250) && decide (sum = n + (bytes.map BitVec.toNat).sum)

/-- 10 R180 to R194: at most four places spoken for; BUSY exactly while a request is in flight; the transmitter idle
exactly on an empty queue; the timer runs exactly in a frame; a frame in progress is as its bytes make it; an OFF port
does nothing. -/
abbrev Console.Sound (c : Console) : Prop :=
  c.spoken ≤ 4 ∧ c.busy = c.inFlight.isSome ∧ (c.tx = .idle ↔ c.answers = []) ∧ (c.interByteTimer = false ↔ c.rx = .idle)
    ∧ (c.role = .off → c.rx = .idle ∧ c.answers = [] ∧ c.inFlight = none)
    ∧ c.rx.Sound = true

/-- Every console port is sound. -/
def State.ConsolesSound (s : State) : Prop := ∀ p, (s.console p).Sound

/-! ### Safe states: tables, settings and clock -/

/-- 02 R22, 03 R46, R55, 06 R112: every table of fixed size has it, and every header cell holds a character from 20h to
7Eh. -/
def State.TablesSound (s : State) : Prop :=
  s.tickets.length = 64 ∧ s.grades.length = 40 ∧ s.tares.length = 96 ∧ s.header.length = 6
    ∧ ∀ l ∈ s.header, l.length = 48 ∧ ∀ c ∈ l, 0x20 ≤ c.toNat ∧ c.toNat ≤ 0x7E

/-- 01 R1, R2: a configuration in its ranges, and the counts, the zero offset and the stability state in theirs. -/
abbrev Bridge.Sound (br : Bridge) : Prop :=
  1000 ≤ br.config.capacity ∧ br.config.capacity ≤ 200000 ∧ br.config.division ∈ [1, 2, 5, 10, 20, 50]
    ∧ br.config.capacity % br.config.division = 0 ∧ 100 ≤ br.config.capacity / br.config.division
    ∧ br.config.capacity / br.config.division ≤ 10000 ∧ 1 ≤ br.config.band ∧ br.config.band ≤ 5
    ∧ 2 ≤ br.config.target ∧ br.config.target ≤ 16 ∧ br.config.divider ∈ [1, 2, 4, 8]
    ∧ 2 ≤ br.config.motionTimeout ∧ br.config.motionTimeout ≤ 60
    ∧ 200 ≤ br.config.staleTimeout ∧ br.config.staleTimeout ≤ 5000 ∧ br.config.staleTimeout % 100 = 0
    ∧ br.dividerCount < br.config.divider ∧ br.steady ≤ 16 ∧ |br.zeroOffset| ≤ 8000
    ∧ (br.reference = none → br.steady = 0)
    ∧ (br.config.positionCheck = true → br.entryBeam = .broken ∨ br.exitBeam = .broken → br.steady = 0)
    ∧ (br.link ≠ .live → br.steady = 0 ∧ br.reference = none)
    ∧ (br.link ≠ .down ↔ br.staleTimer.isSome = true)

/-- 01 R1, 03 R55, 05 R86, 07 R127: every setting in its range; in reset the counts stand at 0. -/
def State.SettingsSound (s : State) : Prop :=
  (∀ b, (s.bridge b).Sound ∧ (s.inReset = true → (s.bridge b).dividerCount = 0 ∧ (s.bridge b).steady = 0))
    ∧ 1 ≤ s.tareValidity ∧ s.tareValidity ≤ 365 ∧ s.limits.ceiling ≤ 99999999
    ∧ s.limits.cap ≤ 99999999 ∧ s.limits.step ∈ [1, 2, 5, 10, 20, 25, 50, 100]
    ∧ ∀ p, (s.printer p).width ∈ [32, 40, 48] ∧ 1 ≤ (s.printer p).timeout ∧ (s.printer p).timeout ≤ 10

/-- 09 R168, R169: the clock holds a real date and time of 2000 to 2099. -/
def State.ClockSound (s : State) : Prop :=
  2000 ≤ s.clock.now.date.year ∧ s.clock.now.date.year ≤ 2099 ∧ 1 ≤ s.clock.now.date.month ∧ s.clock.now.date.month ≤ 12
    ∧ 1 ≤ s.clock.now.date.day ∧ s.clock.now.date.day ≤ monthLength s.clock.now.date.year s.clock.now.date.month
    ∧ s.clock.now.time.hour ≤ 23 ∧ s.clock.now.time.minute ≤ 59 ∧ s.clock.now.time.second ≤ 59

/-! ### Safe states: tickets and their claims -/

/-- 02 R22: no two non-FREE tickets carry one number, and every number lies in its range. -/
def State.NumbersSound (s : State) : Prop :=
  ((entries s.tickets).map (·.number)).Nodup ∧ (∀ t ∈ entries s.tickets, 1 ≤ t.number ∧ t.number ≤ 999999)
    ∧ 1 ≤ s.ticketCounter ∧ s.ticketCounter ≤ 999999

/-- 01 R12, 02 R35, 10 R190: a request in flight has its weighing, a weighing has its request in flight at a LIVE link,
and a ticket's pending mark is set exactly when a pending weighing names the ticket, which is then LOADED. -/
def State.ClaimsSound (s : State) : Prop :=
  (∀ p f, (s.console p).inFlight = some f → ∃ x, (s.bridge f.bridge).weighing = some x ∧ x.console = p)
    ∧ (∀ b x, (s.bridge b).weighing = some x →
        (s.bridge b).link = .live ∧ (∃ cls, (s.console x.console).inFlight = some ⟨cls, b⟩)
        ∧ ∀ n, x.task.ticket = some n → ∃ t ∈ entries s.tickets, t.number = n ∧ t.pending = some b ∧ t.state = .loaded)
    ∧ (∀ t ∈ entries s.tickets, ∀ b, t.pending = some b →
        t.state = .loaded ∧ ∃ x, (s.bridge b).weighing = some x ∧ x.task.ticket = some t.number)
    ∧ (s.inReset = true → ∀ b, (s.bridge b).weighing = none)

/-- 02 R24: line `i` holds the difference of weighings `i` and `i + 1`, at least 1 kg. -/
def netsAgree : List WeighEntry → List Line → Bool
  | [_], [] => true
  | a :: b :: ws, l :: ls => decide (b.weight < a.weight) && decide (l.net + b.weight = a.weight) && netsAgree (b :: ws) ls
  | _, _ => false

/-- 02 R24: the kinds of the weighings after the first: DROP, and one TARE or STORED_TARE at the end where `closed`. -/
def kindsAgree (closed : Bool) : List WeighKind → Bool
  | [] => !closed
  | [k] => if closed then k == .tare || k == .storedTare else k == .drop
  | k :: ks => k == .drop && kindsAgree closed ks

/-- 04 R66 to R68: the computed fields of a settled line follow from its net, manual deduction and bound fields. -/
def Line.computed (l : Line) : Bool :=
  match l.settlement with
  | none => false
  | some f =>
    decide (f.deduction = min l.net (l.manual.getD ((l.net * f.perMille + 500) / 1000)))
      && decide (f.payable + f.deduction = l.net) && decide (f.value = f.payable * f.price)
      && decide (f.price ≤ 999999) && decide (f.perMille ≤ 500) && (f.restricted == f.holdDays.isSome)

/-- 02 R23, R24, 04 R69 to R72: a ticket record as its state says. -/
def Ticket.Sound (t : Ticket) : Bool :=
  let closed := t.settlement.isSome
  t.weighings.all (fun w => decide (w.weight ≤ 200000)) && decide (t.weighings.length ≤ 8)
    && (t.weighings.head?.map (·.kind) == some .gross) && kindsAgree closed ((t.weighings.drop 1).map (·.kind))
    && netsAgree t.weighings t.lines
    && (closed || decide (t.weighings.length ≤ 7))
    && (match t.settlement with
        | none => t.lines.all (fun l => l.settlement.isNone) && (t.state == .loaded || t.state == .void)
        | some x =>
          t.lines.all Line.computed && t.state != .loaded
            && decide (x.figures.exact = (t.lines.map fun l => (l.settlement.map fun f => f.payable * f.price).getD 0).sum)
            && decide (x.figures.amount = x.figures.exact / 100)
            && (decide (0 < x.figures.holdDays) == t.lines.any Line.restricted)
            && (t.state != .held || decide (0 < x.figures.holdDays)) && (t.state != .settled || decide (x.figures.holdDays = 0))
            && (x.figures.release.isNone || decide (0 < x.figures.holdDays)))
    && (t.payment.isSome == (t.state == .paid)) && (t.void.isSome == (t.state == .void))

/-- Every ticket of the table is sound, and a pending drop finds room for its weighing and the final one (02 R31). -/
def State.TicketsSound (s : State) : Prop :=
  (∀ t ∈ entries s.tickets, t.Sound = true)
    ∧ ∀ b x, (s.bridge b).weighing = some x → x.task.purpose = .drop →
        ∀ t ∈ entries s.tickets, x.task.ticket = some t.number → t.weighings.length ≤ 6

/-! ### Safe states: grades, tares, tills, sellers -/

/-- 03 R46, R47, R51: codes are distinct among DEFINED entries, every definition lies in its ranges, and every grade that
a line or a pending weighing names is DEFINED. -/
def State.GradesSound (s : State) : Prop :=
  ((s.grades.filterMap (·.defn)).map (·.code)).Nodup
    ∧ (∀ d ∈ s.grades.filterMap (·.defn), 1 ≤ d.code ∧ d.code ≤ 9999 ∧ 1 ≤ d.name.length ∧ d.name.length ≤ 16
        ∧ (∀ c ∈ d.name, 0x20 ≤ c.toNat ∧ c.toNat ≤ 0x7E) ∧ d.price ≤ 999999 ∧ d.perMille ≤ 500
        ∧ (d.restricted = d.holdDays.isSome) ∧ ∀ n ∈ d.holdDays, 1 ≤ n ∧ n ≤ 30)
    ∧ (∀ t ∈ entries s.tickets, ∀ l ∈ t.lines, (s.gradeDef l.grade).isSome = true)
    ∧ ∀ b x g, (s.bridge b).weighing = some x → x.task.grade = some g → (s.gradeDef g).isSome = true

/-- 03 R55, 01 R15: vehicle ids are distinct among the tare entries, and every tare is a weight. -/
def State.TaresSound (s : State) : Prop :=
  ((entries s.tares).map (·.vehicle)).Nodup ∧ ∀ e ∈ entries s.tares, e.weight ≤ 200000

/-- 05 R99: cash loaded is at most its maximum, and an OPEN till's expected cash is not below zero. -/
abbrev Till.Sound (t : Till) : Prop := t.cashLoaded ≤ 999999999999 ∧ (t.isOpen = true → 0 ≤ t.expected)

/-- 05 R99, R106: every till is sound; the seller cash map holds at most 128 entries and no seller twice. -/
def State.PayoutSound (s : State) : Prop :=
  (∀ p, (s.till p).Sound) ∧ s.sellers.length ≤ 128 ∧ (s.sellers.map (·.seller)).Nodup

/-- 05 R99: cash paid minus rounding balance plus voucher amount equals the ticket amount sum. -/
def Till.balanced (t : Till) : Prop := (t.cashPaid : Int) - t.rounding + t.voucherAmount = t.ticketSum

/-- 05 R99: no counter of the balance has reached its bound. -/
def Till.unsaturated (t : Till) : Prop :=
  t.cashPaid < 999999999999 ∧ t.voucherAmount < 999999999999 ∧ t.ticketSum < 999999999999 ∧ |t.rounding| < 999999999999

/-! ### Safe states: print queues and the journal -/

/-- 07 R131: a job that waits behind the head, or at the head before its start. -/
def Job.waiting (j : Job) : Bool := j.state == .queued && j.serial.isNone && j.nextLine.isNone && decide (j.restarts = 0)

/-- 07 R127, R131, R135: a printer port and its queue as its state says. -/
def Printer.Sound (p : Port) (x : Printer) : Bool :=
  decide (x.queue.length ≤ 8) && x.queue.all (fun j => j.origin == p && decide (j.restarts ≤ 255)) && (x.queue.drop 1).all Job.waiting
    && (x.fault.isSome == (x.state == .faulted))
    && (match x.queue.head? with
        | none => x.state != .printing && x.state != .late && x.rendered.isNone
        | some j =>
          match j.state with
          | .queued => j.waiting && x.state != .printing && x.state != .late && x.rendered.isNone
          | .printing =>
            j.serial.isSome && (x.state == .printing || x.state == .late)
              && x.rendered.any (fun lines => decide (1 ≤ lines.length) && j.nextLine.any (fun i => decide (i ≤ lines.length)))
          | .paused => j.serial.isSome && j.nextLine.isSome && (x.state == .offline || x.state == .faulted) && x.rendered.isNone)
    && (x.present || (x.state == .absent && x.queue.isEmpty)) && (!x.present || x.state != .absent)

/-- The serial of the head job of a queue; absent before its start (07 R131). -/
def Printer.headSerial (x : Printer) : Option Nat := x.queue.head?.bind (·.serial)

/-- 07 R131, 08 R152: every port is sound, its line timer runs exactly outside READY and ABSENT, and outside main reset
its open-serial field holds the serial of its head job; in reset no port holds a job. -/
def State.PrintersSound (s : State) : Prop :=
  ∀ p, (s.printer p).Sound p = true
    ∧ (s.inReset = false → s.openSerials.get p = (s.printer p).headSerial
        ∧ ((s.printer p).lineTimer.isSome = true ↔ (s.printer p).state ≠ .ready ∧ (s.printer p).state ≠ .absent))
    ∧ (s.inReset = true → (s.printer p).queue = [])

/-- 08 R151, 07 R148: each serial follows the one before it in the cycle, and the last is followed by `next`. -/
def serialsFollow (next : Nat) : List Nat → Bool
  | [] => true
  | [n] => nextSerial n == next
  | n :: m :: rest => nextSerial n == m && serialsFollow next (m :: rest)

/-- 08 R151, 07 R148: at most 256 entries, whose serials run without a gap to the one before the counter. -/
def State.JournalSound (s : State) : Prop :=
  s.journal.length ≤ 256 ∧ serialsFollow s.serialCounter (s.journal.map (·.serial)) = true
    ∧ 1 ≤ s.serialCounter ∧ s.serialCounter ≤ 99999999

/-- 08 R156: the job starts that the grand counters and the open-serial fields account for. -/
def State.startsAccounted (s : State) : Nat :=
  s.grand.completed + s.grand.interrupted + s.grand.abandoned
    + [s.openSerials.get 0, s.openSerials.get 1, s.openSerials.get 2, s.openSerials.get 3].countP Option.isSome

/-- The command starts a job in this state (07 R133). -/
def State.startsJob (s : State) (c : Instr) : Bool :=
  match c with
  | .jobStart p =>
    !s.inReset && (s.printer p).present && (s.printer p).state == .ready && ((s.printer p).queue.head?.any fun j => j.state == .queued)
  | _ => false

/-! ### Receipts (06 R115) -/

/-- A printable line of 1 to `w` characters with no trailing space. -/
abbrev printedLine (w : Nat) (l : Text) : Prop :=
  1 ≤ l.length ∧ l.length ≤ w ∧ (∀ c ∈ l, 0x20 ≤ c.toNat ∧ c.toNat ≤ 0x7E) ∧ l.getLast? ≠ some 0x20#8

/-- A time stamp that is absent or a real date and time. -/
abbrev stampFits (t : Option Stamp) : Prop := ∀ x ∈ t, stampValid x = true

/-- A count or an amount of a till or total (05 R99, 08 R157). -/
abbrev counterFits (n : Nat) : Prop := n ≤ 999999999999

/-- 06 R110: a ticket snapshot whose fields lie in the ranges of its record. -/
def TicketSnap.Fits (t : TicketSnap) : Prop :=
  t.number ≤ 999999 ∧ (∀ v ∈ t.vehicle, vehicleFits v) ∧ (∀ n ∈ t.seller, n ≤ 999999) ∧ stampFits t.opened
    ∧ t.weighings.length ≤ 8 ∧ (∀ w ∈ t.weighings, w.weight ≤ 200000 ∧ stampFits w.time)
    ∧ t.lines.length ≤ 7
    ∧ (∀ l ∈ t.lines, nameFits l.name ∧ l.net ≤ 200000
        ∧ ∀ f ∈ l.settlement, f.price ≤ 999999 ∧ f.deduction ≤ 200000 ∧ f.payable ≤ 200000 ∧ f.value ≤ 199999800000)
    ∧ (∀ f ∈ t.settlement, stampFits f.time ∧ f.amount ≤ 1999998000)
    ∧ (∀ f ∈ t.payment, stampFits f.time ∧ (∀ c ∈ f.cashPaid, c ≤ 1999998100) ∧ ∀ r ∈ f.rounding, |r| ≤ 100)
    ∧ ∀ v ∈ t.void, stampFits v.time

/-- 06 R111: a till whose fields lie in the ranges of its record. -/
def Till.Fits (t : Till) : Prop :=
  stampFits t.opened ∧ t.float ≤ 99999999 ∧ counterFits t.cashLoaded ∧ counterFits t.cashPaid ∧ |t.rounding| ≤ 999999999999
    ∧ counterFits t.voucherCount ∧ counterFits t.voucherAmount ∧ counterFits t.ticketSum ∧ counterFits t.ticketsPaid
    ∧ (∀ c ∈ t.counted, counterFits c) ∧ ∀ v ∈ t.overShort, |v| ≤ 2000099999998

/-- 06 R111: day totals whose fields lie in the ranges of their record. -/
def DayTotals.Fits (d : DayTotals) : Prop :=
  d.businessDay ≤ 65535 ∧ stampFits d.since ∧ counterFits d.opened ∧ counterFits d.settled ∧ counterFits d.paidCash
    ∧ counterFits d.paidVoucher ∧ counterFits d.voided ∧ counterFits d.cashTotal ∧ counterFits d.voucherTotal
    ∧ |d.roundingTotal| ≤ 999999999999 ∧ counterFits d.completed ∧ counterFits d.interrupted ∧ counterFits d.abandoned

/-- 06 R110, R111: a snapshot whose fields lie in the ranges of their records. -/
def Snapshot.Fits : Snapshot → Prop
  | .ticket t => t.Fits
  | .till _ t expected => t.Fits ∧ |expected| ≤ 1000099999998
  | .day d close grades => d.Fits ∧ stampFits close ∧ grades.length ≤ 40 ∧ ∀ g ∈ grades, nameFits g.name

/-! ### Safe states: receipts (06 R110, R111, R124) -/

/-- 02 R23, 04 R71, 05 R92: the parties and the times of a ticket record, and the figures of its payment, in their ranges;
`Ticket.Sound` says the same of its weighings, lines and amount. -/
def Ticket.Fits (t : Ticket) : Prop :=
  (∀ v ∈ t.vehicle, vehicleFits v) ∧ (∀ n ∈ t.seller, numberFits n) ∧ stampFits t.opened
    ∧ (∀ w ∈ t.weighings, stampFits w.time) ∧ (∀ x ∈ t.settlement, stampFits x.figures.time)
    ∧ (∀ x ∈ t.payment, stampFits x.figures.time ∧ (∀ c ∈ x.figures.cashPaid, c ≤ 1999998100)
        ∧ ∀ r ∈ x.figures.rounding, |r| ≤ 100)
    ∧ ∀ v ∈ t.void, stampFits v.time

/-- 01 R12, 02 R28: the parties of the ticket that a pending GROSS weighing is to open, in their ranges. -/
def WeighTask.Fits : WeighTask → Prop
  | .gross vehicle seller => (∀ v ∈ vehicle, vehicleFits v) ∧ ∀ n ∈ seller, numberFits n
  | .drop _ _ _ | .tare _ _ _ | .storeTare _ => True

/-- 06 R110, R111, R124: the records that a snapshot is taken of lie in their ranges; so does every queued snapshot, under a
serial of 07 R148; and every rendering a port holds is 1 to 72 printed lines (of any width: SET-PRINTER may change the
port's after the rendering). -/
def State.ReceiptsFit (s : State) : Prop :=
  (∀ t ∈ entries s.tickets, t.Fits) ∧ (∀ b x, (s.bridge b).weighing = some x → x.task.Fits) ∧ (∀ p, (s.till p).Fits) ∧ s.day.Fits
    ∧ (∀ p, ∀ j ∈ (s.printer p).queue, j.snapshot.Fits ∧ ∀ n ∈ j.serial, n ≤ 99999999)
    ∧ ∀ p, ∀ lines ∈ (s.printer p).rendered, 1 ≤ lines.length ∧ lines.length ≤ 72 ∧ ∀ l ∈ lines, printedLine 48 l

end Sys2Proof.Machine
end

