-- ==== Sys2Proof/Certificates/Slice0/Obligations.lean ====
section
/-! DEFINITION. The statements for the provers, in the order of OBLIGATIONS.json: the part as a whole, the console ports,
the weigh links, the tickets and their settlement, grades and tares, payout, receipts and printers, journal and totals,
the clock, the supplies, and the laws that every step keeps. -/

open Sys2Proof Sys2Proof.Machine

/-! ### The part as a whole -/

/-- The step of the model takes the command at the front of the queue, and runs it on the state with the queue's rest; on
an empty queue the part idles, which is the model's choice (log 2). -/
def Obligations.StepTakesTheFrontCommand : Prop :=
  (∀ (c : Instr) (rest : List Instr) (s : State),
     step { s with pending := c :: rest } = exec c { s with pending := rest })
  ∧ (∀ s : State, s.pending = [] → step s = .next s)

/-- No command stops the part, which is the model's deduction (log 4), and none touches the queue of waiting commands. -/
def Obligations.CommandsCompleteAndKeepTheQueue : Prop :=
  ∀ (c : Instr) (s : State), ∃ t, exec c s = .next t ∧ t.pending = s.pending

/-- 11 R202: while main reset is asserted no frame, status byte or beam change is taken, and every other input pin is ignored;
that the expiries, a job start and the end of an answer do nothing in reset either is the model's deduction (log 4). 10
R181: an OFF port ignores every byte, frame and line condition. 07 R129, R147: an ABSENT printer port takes no bytes; that
an expiry of its line timer, which does not run, and a start on its queue, which is empty, do nothing is log 4 too. The output
pins: 11 R202: each is high-impedance in main reset; R181: an OFF port holds TXD high and BUSY low; 10 R190: outside reset
BUSY of a live port is high exactly while a request is in flight; R194: its TXD carries the answer being sent, and with none
to send it idles; R147: the transmit line of an ABSENT printer port idles. An idle line is high where no rule says so by the
model's deduction (log 23), and a line that carries characters, as that of a PRESENT printer port, is `serial` (log 9). -/
def Obligations.DeafPartsTakeNothing : Prop :=
  (∀ (c : Instr) (s : State), s.inReset = true → c.actsInReset = false → exec c s = .next s)
  ∧ (∀ (c : Instr) (p : Port) (s : State), c.receivePort = some p → (s.console p).role = .off → exec c s = .next s)
  ∧ (∀ (c : Instr) (p : Port) (s : State), c.printerPort = some p → (s.printer p).present = false → exec c s = .next s)
  ∧ (∀ (p : Port) (s : State),
     (s.inReset = true → s.consoleTransmitPin p = .highZ ∧ s.busyPin p = .highZ ∧ s.printerTransmitPin p = .highZ)
     ∧ (s.inReset = false → (s.console p).Sound → (s.console p).role = .off →
         s.consoleTransmitPin p = .high ∧ s.busyPin p = .low)
     ∧ (s.inReset = false → (s.console p).Sound → (s.console p).role ≠ .off →
         s.busyPin p = (if (s.console p).inFlight.isSome then .high else .low)
         ∧ s.consoleTransmitPin p = (if (s.console p).answers = [] then .high else .serial))
     ∧ (s.inReset = false → (s.printer p).present = true → s.printerTransmitPin p = .serial)
     ∧ (s.inReset = false → (s.printer p).present = false → s.printerTransmitPin p = .high))

/-! ### Console ports -/

/-- 10 R186: a frame that finds all four places spoken for is discarded, the receiver left in IDLE (log 5); R194: the last
byte of the oldest answer frees its place, and the transmitter begins the next answer, if there is one. -/
def Obligations.FramesNeedRoomAndAnswersFreeIt : Prop :=
  (∀ (c : Instr) (p : Port) (s : State), c.isFrame = true → c.receivePort = some p → s.hears p = true →
     4 ≤ (s.console p).answers.length + (if (s.console p).inFlight.isSome then 1 else 0) →
     exec c s = .next (s.setConsole p (s.console p).heard))
  ∧ (∀ (p : Port) (a : Answer) (rest : List Answer) (s : State), s.inReset = false → (s.console p).answers = a :: rest →
     exec (.answerTransmitted p) s = .next (s.setConsole p
       { s.console p with answers := rest, tx := match rest with
           | [] => .idle
           | _ :: _ => .sending 0 }))

/-- 10 R187 steps 1 to 5, R188, R189: BAD_FRAME and BAD_CLASS, whatever else holds; then BUSY before NOT_PERMITTED before
BAD_FIELD, for every request of the class table; each with no effect beyond its answer. -/
def Obligations.FramesAreExaminedInOrder : Prop :=
  (∀ (p : Port) (cls : Byte) (s : State), s.hears p = true → (s.console p).spoken < 4 →
     exec (.badFrame p cls) s = .next (s.answered p cls .badFrame [])
     ∧ (Decode.namesRequest cls = false → exec (.badClass p cls) s = .next (s.answered p cls .badClass [])))
  ∧ (∀ (cls : Byte) (p : Port) (fields : List Byte) (c : Instr) (s : State),
     Decode.requestCommand cls p fields = some c → s.hears p = true → (s.console p).spoken < 4 →
     ((s.console p).inFlight.isSome = true → cls ≠ 0x01#8 → exec c s = .next (s.answered p cls .busy []))
     ∧ ((s.console p).inFlight = none ∨ cls = 0x01#8 →
         ((s.console p).role ∉ permittedRoles cls → exec c s = .next (s.answered p cls .notPermitted []))
         ∧ ((s.console p).role ∈ permittedRoles cls → bodyDecodes cls fields = false →
             exec c s = .next (s.answered p cls .badField []))))

/-- 10 R182 to R185: the receiver outside CHECK, byte by byte; a break, a framing error or an expiry in a frame abandons it.
The expiry of a stopped timer does nothing, which is the model's deduction (log 4). -/
def Obligations.ReceiverCollectsAndAbandonsFrames : Prop :=
  (∀ (p : Port) (x : Byte) (s : State), s.hears p = true →
     ((s.console p).rx = .idle → exec (.consoleReceivedByte p x) s = .next
         (if x = 0xA6#8 then
           (s.setConsole p { s.console p with rx := .length, interByteTimer := true })
         else s))
     ∧ ((s.console p).rx = .length → exec (.consoleReceivedByte p x) s = .next
         (s.setConsole p
             (if 1 ≤ x.toNat ∧ x.toNat ≤ 250 then
               { s.console p with rx := .body x.toNat [] x.toNat, interByteTimer := true }
             else (s.console p).heard)))
     ∧ ∀ n bytes sum, (s.console p).rx = .body n bytes sum → exec (.consoleReceivedByte p x) s = .next
         (s.setConsole p
             { s.console p with
               rx := if bytes.length + 1 < n then .body n (bytes ++ [x]) (sum + x.toNat) else .check n (bytes ++ [x]) (sum + x.toNat)
               interByteTimer := true }))
  ∧ (∀ (p : Port) (s : State), s.hears p = true →
     exec (.breakCondition p) s = .next (s.setConsole p (s.console p).heard)
     ∧ ((s.console p).interByteTimer = true →
         exec (.interByteTimeout p) s = .next (s.setConsole p (s.console p).heard))
     ∧ ((s.console p).interByteTimer = false → exec (.interByteTimeout p) s = .next s))

/-- 10 R182, R183, R187, 11 R198: the bytes A6h, N, the body and the check, taken one by one from IDLE, run the command
that the complete frame is: BAD_FRAME, BAD_CLASS or the request of the class byte. -/
def Obligations.FrameBytesRunTheCommand : Prop :=
  ∀ (p : Port) (cls : Byte) (fields : List Byte) (check : Byte) (rest : List Instr) (s : State),
    s.hears p = true → (s.console p).rx = .idle → (s.console p).interByteTimer = false → fields.length ≤ 249 →
    Host.Core.run core (fields.length + 4)
      { s with pending := ([0xA6#8, BitVec.ofNat 8 (fields.length + 1), cls] ++ fields ++ [check]).map (.consoleReceivedByte p) ++ rest }
    = exec (if (fields.length + 1 + cls.toNat + (fields.map BitVec.toNat).sum + check.toNat) % 256 ≠ 0 then .badFrame p cls
        else (Decode.requestCommand cls p fields).getD (.badClass p cls)) { s with pending := rest }

/-- 11 R197, R198, 10 R189: a field is read as the value its bytes carry, an absent optional one from all ones; and for every
layout of R198 the body decodes to a request exactly when it is the fields of that request in their order, each in the range
of its owning rule, with no byte missing and none left over. -/
def Obligations.FieldsAndRequestsDecode : Prop :=
  (∀ (n v : Nat) (rest : List Byte), v < 256 ^ n → Decode.takeNum n (Wire.num n v ++ rest) = some (v, rest))
  ∧ (∀ (n v : Nat) (rest : List Byte), v + 1 < 256 ^ n → Decode.takeOptNum n (Wire.num n v ++ rest) = some (some v, rest))
  ∧ (∀ (n : Nat) (rest : List Byte), Decode.takeOptNum n (List.replicate n 0xFF#8 ++ rest) = some (none, rest))
  ∧ (∀ (t : Text) (rest : List Byte), t.length ≤ 255 → Decode.takeText (Wire.text t ++ rest) = some (t, rest))
  ∧ ∀ fs : List Byte,
    (∀ r, Decode.noFields fs = some r ↔ fs = [])
    ∧ (∀ r, Decode.openTicket fs = some r ↔
        (∀ v ∈ r.vehicle, vehicleFits v) ∧ (∀ n ∈ r.seller, numberFits n)
        ∧ fs = Wire.bridge r.bridge ++ Wire.optText r.vehicle ++ Wire.optNum 3 r.seller)
    ∧ (∀ r, Decode.weigh fs = some r ↔
        numberFits r.ticket ∧ codeFits r.code ∧ (∀ m ∈ r.manual, m ≤ 200000)
        ∧ fs = Wire.num 3 r.ticket ++ Wire.bridge r.bridge ++ Wire.num 2 r.code ++ Wire.optNum 3 r.manual)
    ∧ (∀ r, Decode.storeTare fs = some r ↔ vehicleFits r.vehicle ∧ fs = Wire.bridge r.bridge ++ Wire.text r.vehicle)
    ∧ (∀ r, Decode.applyTare fs = some r ↔
        numberFits r.ticket ∧ codeFits r.code ∧ (∀ m ∈ r.manual, m ≤ 200000)
        ∧ fs = Wire.num 3 r.ticket ++ Wire.num 2 r.code ++ Wire.optNum 3 r.manual)
    ∧ (∀ b, Decode.bridgeOnly fs = some b ↔ fs = Wire.bridge b)
    ∧ (∀ r, Decode.setDeduction fs = some r ↔
        numberFits r.ticket ∧ 1 ≤ r.line ∧ r.line ≤ 7 ∧ (∀ m ∈ r.manual, m ≤ 200000)
        ∧ fs = Wire.num 3 r.ticket ++ Wire.num 1 r.line ++ Wire.optNum 3 r.manual)
    ∧ (∀ r, Decode.setParty fs = some r ↔
        numberFits r.ticket ∧ (∀ v ∈ r.vehicle, vehicleFits v) ∧ (∀ n ∈ r.seller, numberFits n)
        ∧ (r.vehicle.isSome = true ∨ r.seller.isSome = true)
        ∧ fs = Wire.num 3 r.ticket ++ Wire.optText r.vehicle ++ Wire.optNum 3 r.seller)
    ∧ (∀ n, Decode.openTill fs = some n ↔ n ≤ 99999999 ∧ fs = Wire.num 4 n)
    ∧ (∀ n, Decode.loadCash fs = some n ↔ 1 ≤ n ∧ n ≤ 99999999 ∧ fs = Wire.num 4 n)
    ∧ (∀ n, Decode.closeTill fs = some n ↔ n ≤ 999999999999 ∧ fs = Wire.num 5 n)
    ∧ (∀ r, Decode.pay fs = some r ↔ numberFits r.ticket ∧ fs = Wire.num 3 r.ticket ++ Wire.method r.method)
    ∧ (∀ k, Decode.portOnly fs = some k ↔ fs = [BitVec.ofNat 8 k.val])
    ∧ (∀ l, Decode.setPayoutLimits fs = some l ↔
        l.ceiling ≤ 99999999 ∧ l.cap ≤ 99999999 ∧ l.step ∈ [1, 2, 5, 10, 20, 25, 50, 100]
        ∧ fs = Wire.num 4 l.ceiling ++ Wire.num 4 l.cap ++ Wire.num 1 l.step)
    ∧ (∀ r, Decode.setGrade fs = some r ↔
        r.index ≤ 39 ∧ codeFits r.grade.code ∧ 1 ≤ r.grade.name.length ∧ nameFits r.grade.name ∧ r.grade.price ≤ 999999
        ∧ r.grade.perMille ≤ 500 ∧ r.grade.restricted = r.grade.holdDays.isSome ∧ (∀ n ∈ r.grade.holdDays, 1 ≤ n ∧ n ≤ 30)
        ∧ fs = Wire.num 1 r.index ++ Wire.num 2 r.grade.code ++ Wire.text r.grade.name ++ Wire.num 3 r.grade.price
            ++ Wire.num 2 r.grade.perMille ++ Wire.flag r.grade.restricted ++ Wire.optNum 1 r.grade.holdDays)
    ∧ (∀ code, Decode.removeGrade fs = some code ↔ codeFits code ∧ fs = Wire.num 2 code)
    ∧ (∀ v, Decode.deleteTare fs = some v ↔ vehicleFits v ∧ fs = Wire.text v)
    ∧ (∀ days, Decode.setTareValidity fs = some days ↔ 1 ≤ days ∧ days ≤ 365 ∧ fs = Wire.num 2 days)
    ∧ (∀ r, Decode.setBridge fs = some r ↔
        1000 ≤ r.config.capacity ∧ r.config.capacity ≤ 200000 ∧ r.config.division ∈ [1, 2, 5, 10, 20, 50]
        ∧ r.config.capacity % r.config.division = 0 ∧ 100 ≤ r.config.capacity / r.config.division
        ∧ r.config.capacity / r.config.division ≤ 10000 ∧ 1 ≤ r.config.band ∧ r.config.band ≤ 5 ∧ 2 ≤ r.config.target
        ∧ r.config.target ≤ 16 ∧ r.config.divider ∈ [1, 2, 4, 8] ∧ 2 ≤ r.config.motionTimeout
        ∧ r.config.motionTimeout ≤ 60 ∧ 200 ≤ r.config.staleTimeout ∧ r.config.staleTimeout ≤ 5000
        ∧ r.config.staleTimeout % 100 = 0
        ∧ fs = Wire.bridge r.bridge ++ Wire.num 3 r.config.capacity ++ Wire.num 1 r.config.division ++ Wire.num 1 r.config.band
            ++ Wire.num 1 r.config.target ++ Wire.num 1 r.config.divider ++ Wire.num 1 r.config.motionTimeout
            ++ Wire.num 2 r.config.staleTimeout ++ Wire.flag r.config.positionCheck)
    ∧ (∀ r, Decode.setHeaderLine fs = some r ↔
        r.line ≤ 5 ∧ r.text.length ≤ 255 ∧ fs = Wire.num 1 r.line ++ Wire.text r.text)
    ∧ (∀ r, Decode.setHeaderCell fs = some r ↔
        r.line ≤ 5 ∧ r.column ≤ 47 ∧ fs = Wire.num 1 r.line ++ Wire.num 1 r.column ++ [r.char])
    ∧ (∀ r, Decode.setPrinter fs = some r ↔
        r.width ∈ [32, 40, 48] ∧ 1 ≤ r.timeout ∧ r.timeout ≤ 10
        ∧ fs = [BitVec.ofNat 8 r.port.val] ++ Wire.num 1 r.width ++ Wire.num 1 r.timeout)
    ∧ (∀ now, Decode.setClock fs = some now ↔
        2000 ≤ now.date.year ∧ now.date.year ≤ 2099 ∧ 1 ≤ now.date.month ∧ now.date.month ≤ 12 ∧ 1 ≤ now.date.day
        ∧ now.date.day ≤ monthLength now.date.year now.date.month ∧ now.time.hour ≤ 23 ∧ now.time.minute ≤ 59
        ∧ now.time.second ≤ 59 ∧ fs = Wire.date now.date ++ Wire.time now.time)
    ∧ (∀ n, Decode.ticketOnly fs = some n ↔ numberFits n ∧ fs = Wire.num 3 n)
    ∧ (∀ r, Decode.queryTicket fs = some r ↔ numberFits r.ticket ∧ fs = Wire.num 3 r.ticket ++ (match r.part with
        | .summary => [0x00]
        | .weighings => [0x01]
        | .lines => [0x02]))
    ∧ (∀ r, Decode.listTickets fs = some r ↔ r.after ≤ 999999 ∧ fs = (match r.filter with
        | none => [0x00]
        | some state => Wire.ticketState state) ++ Wire.num 3 r.after)
    ∧ (∀ q, Decode.queryGrade fs = some q ↔ match q with
        | .code n => codeFits n ∧ fs = [0x00] ++ Wire.num 2 n
        | .index i => i ≤ 39 ∧ fs = [0x01] ++ Wire.num 2 i)
    ∧ (∀ q, Decode.queryTare fs = some q ↔ match q with
        | .exact v => vehicleFits v ∧ fs = [0x00] ++ Wire.text v
        | .after v => (v = [] ∨ vehicleFits v) ∧ fs = [0x01] ++ Wire.text v)
    ∧ (∀ q, Decode.queryJournal fs = some q ↔ match q with
        | .serial n => 1 ≤ n ∧ n ≤ 99999999 ∧ fs = [0x00] ++ Wire.num 4 n
        | .newest => ∃ unread, fs = [0x01] ++ unread ∧ unread.length = 4)
    ∧ ∀ q, Decode.queryTotals fs = some q ↔ match q with
        | .day i => i ≤ 39 ∧ fs = [0x00] ++ Wire.num 1 i
        | .grand => ∃ unread, fs = [0x01] ++ unread ∧ unread.length = 1

/-- 10 R192, 01 R18: ABORT ends the port's own weighing: the mark is cleared, the weighing is removed, and the ABORTED
answer goes before DONE; with nothing in flight it is answered NOTHING_TO_ABORT. -/
def Obligations.AbortEndsTheOwnWeighing : Prop :=
  ∀ (p : Port) (s : State), s.hears p = true → (s.console p).spoken < 4 →
    (∀ f x, (s.console p).inFlight = some f → (s.bridge f.bridge).weighing = some x →
      exec (.abort p []) s = .next
        { (s.clearTaskMark x.task).setBridge f.bridge { s.bridge f.bridge with weighing := none } with
          consoles := s.consoles.set p ({ (s.console p).heard with inFlight := none, busy := false }.queued
            [⟨f.cls, .aborted, Wire.bridge f.bridge⟩, ⟨0x01, .done, []⟩]) })
    ∧ ((s.console p).inFlight = none → exec (.abort p []) s = .next (s.answered p 0x01 .nothingToAbort []))

/-- 10 R196, 05 R107, 07 R145, 01 R21: QUERY-STATUS, QUERY-TILL, QUERY-PRINTER and QUERY-BRIDGE report their records as they
stand and change nothing; the last close of a till is a group, after its FLAG (11 R197). Field widths and groups that R199
does not name: log 10, 12, 13; a till with half a last close: log 19. -/
def Obligations.StatusTillPrinterAndBridgeQueries : Prop :=
  (∀ (p : Port) (s : State), s.Ready p →
     exec (.queryStatus p []) s = .next (s.answered p 0x02 .done
       ([BitVec.ofNat 8 p.val] ++ Wire.date s.clock.now.date ++ Wire.time s.clock.now.time ++ Wire.flag s.clock.valid
         ++ Wire.num 2 s.day.businessDay ++ Wire.flag s.day.storeLost
         ++ [(0 : Port), 1, 2, 3].flatMap (fun k => Wire.role (s.console k).role
               ++ (match (s.console k).inFlight with
                   | none => [0xFF, 0xFF]
                   | some f => [f.cls, BitVec.ofNat 8 f.bridge.val]))
         ++ [(0 : Port), 1, 2, 3].flatMap fun k => Wire.presence (s.printer k).present)))
  ∧ (∀ (p : Port) (fields : List Byte) (s : State), s.Ready p →
     (∀ k, Decode.portOnly fields = some k →
       (let t := s.till k
        exec (.queryTill p fields) s = .next (s.answered p 0x55 .done
         ([BitVec.ofNat 8 k.val] ++ (if t.isOpen then [0x01] else [0x00]) ++ Wire.optStamp t.opened ++ Wire.num 4 t.float
           ++ Wire.num 5 t.cashLoaded ++ Wire.num 5 t.cashPaid ++ Wire.signed t.rounding ++ Wire.num 5 t.voucherCount
           ++ Wire.num 5 t.voucherAmount ++ Wire.num 5 t.ticketSum ++ Wire.num 5 t.ticketsPaid
           ++ Wire.num 5 (t.float + t.cashLoaded - t.cashPaid)
           ++ (match t.counted, t.overShort with
               | some counted, some overShort => [0x01] ++ Wire.num 5 counted ++ Wire.signed overShort
               | _, _ => [0x00])
           ++ Wire.num 4 s.limits.ceiling ++ Wire.num 4 s.limits.cap ++ Wire.num 1 s.limits.step
           ++ Wire.num 1 s.sellers.length)))
       ∧ (let x := s.printer k
          exec (.queryPrinter p fields) s = .next (s.answered p 0x56 .done
           ([BitVec.ofNat 8 k.val] ++ (if x.present then [0x01] else [0x00]) ++ Wire.portState x.state ++ Wire.faultReason x.fault
             ++ Wire.num 1 x.width ++ Wire.num 1 x.timeout ++ Wire.num 1 x.queue.length
             ++ x.queue.zipIdx.flatMap (fun y => Wire.num 1 (y.2 + 1) ++ Wire.jobKind y.1.kind ++ Wire.num 1 y.1.origin.val
                 ++ Wire.jobState y.1.state ++ Wire.optNum 3 y.1.snapshot.ticketNumber ++ Wire.optNum 4 y.1.serial
                 ++ Wire.num 1 y.1.restarts)
             ++ (match x.queue with
                 | ⟨_, _, _, _, .printing, _, next, _⟩ :: _ => Wire.optNum 1 next ++ Wire.optNum 1 (x.rendered.map List.length)
                 | ⟨_, _, _, _, .paused, _, next, _⟩ :: _ => Wire.optNum 1 next ++ [0xFF]
                 | _ => [0xFF, 0xFF])))))
     ∧ ∀ b, Decode.bridgeOnly fields = some b →
         let br := s.bridge b
         exec (.queryBridge p fields) s = .next (s.answered p 0x52 .done
           (Wire.config br.config ++ Wire.linkState br.link
             ++ Wire.group (fun y : Sample => Wire.signed y.raw ++ Wire.signed (y.raw - br.zeroOffset) ++ Wire.flag y.fault) br.latest
             ++ Wire.signed br.zeroOffset ++ Wire.num 1 br.steady
             ++ Wire.flag (decide (br.config.target ≤ br.steady)
                 && (!br.config.positionCheck || decide (br.entryBeam = .clear ∧ br.exitBeam = .clear)))
             ++ Wire.beam br.entryBeam ++ Wire.beam br.exitBeam
             ++ Wire.group (fun w : Weighing => Wire.num 1 w.console.val ++ Wire.purpose w.task.purpose
                 ++ Wire.optNum 3 w.task.ticket) br.weighing
             ++ Wire.group (fun c : Capture => Wire.signed c.weight ++ Wire.optStamp c.time ++ Wire.purpose c.purpose
                 ++ Wire.optNum 3 c.ticket ++ [Wire.resultCode c.outcome]) br.lastCapture)))

/-! ### Weigh links -/

/-- 01 R11: W is the nearest multiple of d, the larger of two equally near, and is reported in the answer and the last
capture record at every capture. -/
def Obligations.CapturedWeightIsTheNearestMultiple : Prop :=
  (∀ (d : Nat) (x : Int), 0 < d →
    (d : Int) ∣ roundToDivision d x ∧ 2 * |roundToDivision d x - x| ≤ d
      ∧ (2 * |roundToDivision d x - x| = d → x < roundToDivision d x))
  ∧ ∀ (b : BridgeId) (raw : BitVec 24) (status : Byte) (x : Weighing) (cls : Byte) (s : State),
      s.Captures b raw.toInt x cls → status.getLsbD 0 = false →
      let w := roundToDivision (s.bridge b).config.division (raw.toInt - (s.bridge b).zeroOffset)
      ∃ t code fields, exec (.sampleEvent b raw status) s = .next t ∧ (t.bridge b).lastCapture.map (·.weight) = some w
        ∧ (t.console x.console).answers = (s.console x.console).answers ++ [⟨cls, code, Wire.bridge b ++ Wire.signed w ++ fields⟩]

/-- 01 R3 to R7: a good sample that captures nothing sets the latest sample, the stale timer, the link state, the divider
and, when counted, the steadiness; a fault frame and a stale expiry with no weighing pending; a bad frame and an
abandoned one (11 R200) change nothing but the receiver (a timer holds the duration it was started with: log 3). A motion
deadline with no weighing pending changes nothing, which is the model's deduction (log 4). -/
def Obligations.SamplesUpdateTheLink : Prop :=
  (∀ (b : BridgeId) (raw : BitVec 24) (status : Byte) (s : State), s.inReset = false → status.getLsbD 0 = false →
     ((s.bridge b).dividerCount + 1 < (s.bridge b).config.divider →
       exec (.sampleEvent b raw status) s = .next (s.setBridge b
         { (s.bridge b).sampled raw.toInt with dividerCount := (s.bridge b).dividerCount + 1 }))
     ∧ ((s.bridge b).config.divider ≤ (s.bridge b).dividerCount + 1 →
         (s.bridge b).weighing = none ∨ (((s.bridge b).sampled raw.toInt).counted raw.toInt).stable = false →
         exec (.sampleEvent b raw status) s = .next (s.setBridge b
           (((s.bridge b).sampled raw.toInt).counted raw.toInt))))
  ∧ (∀ (b : BridgeId) (raw : BitVec 24) (status : Byte) (s : State), s.inReset = false → (s.bridge b).weighing = none →
     (status.getLsbD 0 = true → exec (.sampleEvent b raw status) s = .next (s.setBridge b
       { s.bridge b with
         latest := some ⟨raw.toInt, true⟩, staleTimer := some (s.bridge b).config.staleTimeout, rx := .hunting, link := .fault
         reference := if (s.bridge b).link = .live then none else (s.bridge b).reference
         steady := if (s.bridge b).link = .live then 0 else (s.bridge b).steady }))
     ∧ ((s.bridge b).staleTimer.isSome = true → exec (.staleTimerExpiry b) s = .next (s.setBridge b
         { s.bridge b with
           staleTimer := none, link := .down
           reference := if (s.bridge b).link = .live then none else (s.bridge b).reference
           steady := if (s.bridge b).link = .live then 0 else (s.bridge b).steady }))
     ∧ exec (.motionDeadline b) s = .next s)
  ∧ (∀ (b : BridgeId) (s : State), s.inReset = false →
     exec (.badSampleFrame b) s = .next (s.setBridge b { s.bridge b with rx := .hunting })
     ∧ exec (.sampleGapTimeout b) s = .next (s.setBridge b { s.bridge b with rx := .hunting }))

/-- 01 R17, R5, 02 R34: the motion deadline, a stale expiry and a fault frame end the pending weighing: the mark is
cleared, the record of the last capture stays, and the console is answered the code and the bridge. -/
def Obligations.WeighingEndsWithoutCapture : Prop :=
  ∀ (b : BridgeId) (x : Weighing) (cls : Byte) (s : State), s.inReset = false → (s.bridge b).weighing = some x →
    (s.console x.console).inFlight = some ⟨cls, b⟩ →
    exec (.motionDeadline b) s = .next
      (((s.clearTaskMark x.task).setBridge b { s.bridge b with weighing := none }).landed x.console cls .unstable (Wire.bridge b))
    ∧ ((s.bridge b).link = .live → (s.bridge b).staleTimer.isSome = true →
        exec (.staleTimerExpiry b) s = .next (((s.clearTaskMark x.task).setBridge b
          { s.bridge b with staleTimer := none, link := .down, reference := none, steady := 0, weighing := none }).landed
            x.console cls .stale (Wire.bridge b)))
    ∧ ((s.bridge b).link = .live → ∀ (raw : BitVec 24) (status : Byte), status.getLsbD 0 = true →
        exec (.sampleEvent b raw status) s = .next (((s.clearTaskMark x.task).setBridge b
          { s.bridge b with
            latest := some ⟨raw.toInt, true⟩, staleTimer := some (s.bridge b).config.staleTimeout, rx := .hunting
            link := .fault, reference := none, steady := 0, weighing := none }).landed
            x.console cls .scaleFault (Wire.bridge b)))

/-- 11 R200: six bytes taken while hunting are the sample they spell, or a bad frame; any other byte is discarded. -/
def Obligations.IndicatorBytesAreTheSample : Prop :=
  ∀ (b : BridgeId) (hi mid lo status check : Byte) (rest : List Instr) (s : State), s.inReset = false →
    (s.bridge b).rx = .hunting →
    Host.Core.run core 6 { s with pending := [0x7E#8, hi, mid, lo, status, check].map (.indicatorReceivedByte b) ++ rest }
      = exec (if (hi.toNat + mid.toNat + lo.toNat + status.toNat + check.toNat) % 256 = 0
          then .sampleEvent b (hi ++ mid ++ lo) status else .badSampleFrame b) { s with pending := rest }
    ∧ ∀ x : Byte, x ≠ 0x7E#8 → exec (.indicatorReceivedByte b x) s = .next s

/-- 01 R8: a beam event; with position check on a BROKEN beam empties the steady count and a CLEAR one the reference. A
level that is the beam's own is no change (log 16). -/
def Obligations.BeamEventSetsTheBeam : Prop :=
  ∀ (b : BridgeId) (which : BeamEnd) (high : Bool) (s : State), s.inReset = false →
    let br := s.bridge b
    let old : Beam := match which with
      | .entry => br.entryBeam
      | .exit => br.exitBeam
    let new : Beam := if high then .clear else .broken
    exec (.beamEvent b which high) s = .next (if old = new then s else (s.setBridge b
      { br with
        entryBeam := if which = .entry then new else br.entryBeam
        exitBeam := if which = .exit then new else br.exitBeam
        steady := if br.config.positionCheck ∧ new = .broken then 0 else br.steady
        reference := if br.config.positionCheck ∧ new = .clear then none else br.reference }))

/-- 01 R10, R20, R13: the refusals of ZERO, SET-BRIDGE and the four weighing requests, in the order of their tables. That
ZERO at a stable bridge without a reference, which no run reaches, is UNSTABLE is no entry of R10: it is the model's choice
(log 19). -/
def Obligations.WeighLinkRequestsAreCheckedInOrder : Prop :=
  ∀ (p : Port) (fields : List Byte) (s : State) (code : ResultCode),
    (∀ b, Decode.bridgeOnly fields = some b → s.ReadyAs p .weigh → firstFailure (zeroChecks (s.bridge b)) = some code →
      exec (.zero p fields) s = .next (s.answered p 0x15 code []))
    ∧ (∀ r, Decode.setBridge fields = some r → s.ReadyAs p .office → (s.bridge r.bridge).weighing.isSome = true →
        exec (.setBridge p fields) s = .next (s.answered p 0x34 .bridgeBusy []))
    ∧ (∀ r, Decode.openTicket fields = some r → s.ReadyAs p .weigh → firstFailure (openTicketChecks s r) = some code →
        exec (.openTicket p fields) s = .next (s.answered p 0x10 code []))
    ∧ (∀ r, Decode.weigh fields = some r → s.ReadyAs p .weigh →
        (firstFailure (weighChecks true s r) = some code → exec (.weighDrop p fields) s = .next (s.answered p 0x11 code []))
        ∧ (firstFailure (weighChecks false s r) = some code → exec (.weighTare p fields) s = .next (s.answered p 0x12 code [])))
    ∧ ∀ r, Decode.storeTare fields = some r → s.ReadyAs p .weigh → firstFailure (storeTareChecks s r) = some code →
        exec (.storeTare p fields) s = .next (s.answered p 0x13 code [])

/-- 01 R10: ZERO makes the reference the zero offset; R20: SET-BRIDGE replaces the whole configuration and starts the
steadiness afresh; neither changes anything else (SET-BRIDGE answers the values in force: log 14). -/
def Obligations.ZeroAndSetBridge : Prop :=
  (∀ (p : Port) (fields : List Byte) (b : BridgeId) (raw : Int) (s : State), Decode.bridgeOnly fields = some b →
     s.ReadyAs p .weigh → firstFailure (zeroChecks (s.bridge b)) = none → (s.bridge b).reference = some raw →
     exec (.zero p fields) s = .next
       ((s.setBridge b { s.bridge b with zeroOffset := raw }).answered p 0x15 .done (Wire.signed raw)))
  ∧ (∀ (p : Port) (fields : List Byte) (r : SetBridgeReq) (s : State), Decode.setBridge fields = some r →
     s.ReadyAs p .office → (s.bridge r.bridge).weighing = none →
     exec (.setBridge p fields) s = .next ((s.setBridge r.bridge
       { s.bridge r.bridge with config := r.config, dividerCount := 0, reference := none, steady := 0 }).answered p 0x34 .done
         (Wire.num 3 r.config.capacity ++ Wire.num 1 r.config.division ++ Wire.num 1 r.config.band ++ Wire.num 1 r.config.target
           ++ Wire.num 1 r.config.divider ++ Wire.num 1 r.config.motionTimeout ++ Wire.num 2 r.config.staleTimeout
           ++ Wire.flag r.config.positionCheck)))

/-- 01 R12, R13, 02 R31, 10 R190: a weighing request that passes its checks creates the pending weighing, sets the mark
of the ticket it names, and goes into flight with BUSY high; it makes no answer (the deadline is held as its duration: log 3). -/
def Obligations.WeighingRequestsGoIntoFlight : Prop :=
  ∀ (p : Port) (fields : List Byte) (s : State), s.ReadyAs p .weigh →
    (∀ r, Decode.openTicket fields = some r → firstFailure (openTicketChecks s r) = none →
      exec (.openTicket p fields) s = .next ((s.setBridge r.bridge { s.bridge r.bridge with
        weighing := some ⟨p, .gross r.vehicle r.seller, (s.bridge r.bridge).config.motionTimeout⟩ }).flying p 0x10 r.bridge))
    ∧ (∀ r i t g, Decode.weigh fields = some r → s.findTicket r.ticket = some (i, t) → s.gradeIndex r.code = some g →
        (firstFailure (weighChecks true s r) = none →
          exec (.weighDrop p fields) s = .next (((s.putTicket i { t with pending := some r.bridge }).setBridge r.bridge
            { s.bridge r.bridge with
              weighing := some ⟨p, .drop r.ticket g r.manual, (s.bridge r.bridge).config.motionTimeout⟩ }).flying p 0x11 r.bridge))
        ∧ (firstFailure (weighChecks false s r) = none →
          exec (.weighTare p fields) s = .next (((s.putTicket i { t with pending := some r.bridge }).setBridge r.bridge
            { s.bridge r.bridge with
              weighing := some ⟨p, .tare r.ticket g r.manual, (s.bridge r.bridge).config.motionTimeout⟩ }).flying p 0x12 r.bridge)))
    ∧ ∀ r, Decode.storeTare fields = some r → firstFailure (storeTareChecks s r) = none →
        exec (.storeTare p fields) s = .next ((s.setBridge r.bridge { s.bridge r.bridge with
          weighing := some ⟨p, .storeTare r.vehicle, (s.bridge r.bridge).config.motionTimeout⟩ }).flying p 0x13 r.bridge)

/-- 01 R14 to R16, 02 R29: a GROSS capture opens a ticket in the lowest FREE slot under the new number; R30: where no slot is
FREE it fails TABLE_FULL with W, the ticket number counter unchanged; R32: a DROP capture appends the weighing and its line
and clears the mark. -/
def Obligations.GrossAndDropCaptures : Prop :=
  (∀ (b : BridgeId) (raw : BitVec 24) (status : Byte) (x : Weighing) (cls : Byte) (vehicle : Option Text) (seller : Option Nat)
     (i : Nat) (w : Nat) (s : State),
     s.Captures b raw.toInt x cls → status.getLsbD 0 = false → x.task = .gross vehicle seller →
     (w : Int) = (s.bridge b).capturedWeight raw.toInt → 20 * (s.bridge b).config.division ≤ w → w ≤ (s.bridge b).config.capacity →
     s.tickets[i]? = some none → (∀ j < i, s.tickets[j]? ≠ some none) →
     exec (.sampleEvent b raw status) s = .next
       (({ s with
           tickets := s.tickets.set i (some
             { number := s.newNumber, state := .loaded, pending := none, vehicle, seller, opened := s.stamp
               weighings := [⟨.gross, w, b, s.stamp⟩], lines := [], settlement := none, payment := none, void := none })
           ticketCounter := if s.newNumber < 999999 then s.newNumber + 1 else 1
           day := { s.day with opened := min (s.day.opened + 1) 999999999999 } }.setBridge b
         (s.capturedBridge b raw.toInt w .gross (some s.newNumber) .done)).landed x.console cls .done
           (Wire.bridge b ++ Wire.signed w ++ Wire.num 3 s.newNumber)))
  ∧ (∀ (b : BridgeId) (raw : BitVec 24) (status : Byte) (x : Weighing) (cls : Byte) (vehicle : Option Text) (seller : Option Nat)
     (w : Nat) (s : State),
     s.Captures b raw.toInt x cls → status.getLsbD 0 = false → x.task = .gross vehicle seller →
     (w : Int) = (s.bridge b).capturedWeight raw.toInt → 20 * (s.bridge b).config.division ≤ w → w ≤ (s.bridge b).config.capacity →
     none ∉ s.tickets →
     exec (.sampleEvent b raw status) s = .next
       ((s.setBridge b (s.capturedBridge b raw.toInt w .gross none .tableFull)).landed x.console cls .tableFull
         (Wire.bridge b ++ Wire.signed w)))
  ∧ (∀ (b : BridgeId) (raw : BitVec 24) (status : Byte) (x : Weighing) (cls : Byte) (n g : Nat) (manual : Option Nat)
     (i : Nat) (t : Ticket) (last : WeighEntry) (w : Nat) (s : State),
     s.Captures b raw.toInt x cls → status.getLsbD 0 = false → x.task = .drop n g manual → s.findTicket n = some (i, t) →
     t.weighings.getLast? = some last → (w : Int) = (s.bridge b).capturedWeight raw.toInt →
     w ≤ (s.bridge b).config.capacity → w + (s.bridge b).config.division ≤ last.weight →
     exec (.sampleEvent b raw status) s = .next
       (((s.putTicket i { t with pending := none, weighings := t.weighings ++ [⟨.drop, w, b, s.stamp⟩]
                                 lines := t.lines ++ [⟨g, last.weight - w, manual, none⟩] }).setBridge b
         (s.capturedBridge b raw.toInt w .drop (some n) .done)).landed x.console cls .done
           (Wire.bridge b ++ Wire.signed w ++ Wire.num 3 n ++ Wire.num 1 t.weighings.length ++ Wire.num 3 (last.weight - w))))

/-- 02 R33, 04 R63, R73 to R75: a TARE capture appends the last weighing and line, and the ticket is settled, counted and
offered its slip in the same event. -/
def Obligations.TareCaptureSettlesTheTicket : Prop :=
  ∀ (b : BridgeId) (raw : BitVec 24) (status : Byte) (x : Weighing) (cls : Byte) (n g : Nat) (manual : Option Nat)
    (i : Nat) (t : Ticket) (last : WeighEntry) (w : Nat) (s : State),
    s.Captures b raw.toInt x cls → status.getLsbD 0 = false → x.task = .tare n g manual → s.findTicket n = some (i, t) →
    t.weighings.getLast? = some last → (w : Int) = (s.bridge b).capturedWeight raw.toInt →
    w ≤ (s.bridge b).config.capacity → w + (s.bridge b).config.division ≤ last.weight →
    ∃ t' f, t' = settleTicket s.grades s.clock { t with
          pending := none, weighings := t.weighings ++ [⟨.tare, w, b, s.stamp⟩]
          lines := t.lines ++ [⟨g, last.weight - w, manual, none⟩] }
      ∧ t'.settlement = some ⟨f, none⟩
      ∧ exec (.sampleEvent b raw status) s = .next
          (((s.closed i t' x.console).setBridge b (s.capturedBridge b raw.toInt w .tare (some n) .done)).landed x.console cls .done
            (Wire.bridge b ++ Wire.signed w ++ Wire.num 3 n ++ Wire.num 1 t.weighings.length ++ Wire.num 3 (last.weight - w)
              ++ s.outcomeFields x.console t' f))

/-- 03 R60, R56: a STORE_TARE capture replaces the vehicle's entry, or takes the lowest empty position, or evicts the
expired entry stored earliest (the lowest position on a tie), or fails TABLE_FULL. -/
def Obligations.StoreTareCaptureKeepsTheTare : Prop :=
  ∀ (b : BridgeId) (raw : BitVec 24) (status : Byte) (x : Weighing) (cls : Byte) (v : Text) (w : Nat) (s : State),
    s.Captures b raw.toInt x cls → status.getLsbD 0 = false → x.task = .storeTare v →
    (w : Int) = (s.bridge b).capturedWeight raw.toInt → 20 * (s.bridge b).config.division ≤ w → w ≤ (s.bridge b).config.capacity →
    let e : Tare := ⟨v, w, b, s.clock.now.date⟩
    let expiry := addDays s.clock.now.date s.tareValidity
    let result := fun (u : State) (code : ResultCode) (extra : List Byte) =>
      (Host.Outcome.next ((u.setBridge b (s.capturedBridge b raw.toInt w .storeTare none code)).landed x.console cls code
        (Wire.bridge b ++ Wire.signed w ++ extra)) : Host.Outcome State Fault Refusal)
    (∀ i old, s.findTare v = some (i, old) → exec (.sampleEvent b raw status) s =
      result { s with tares := s.tares.set i (some e) } .done
        (Wire.text v ++ Wire.date e.stored ++ Wire.date expiry ++ [0x01] ++ [0x00]))
    ∧ (s.findTare v = none → ∀ i, s.tares[i]? = some none → (∀ j < i, s.tares[j]? ≠ some none) →
        exec (.sampleEvent b raw status) s = result { s with tares := s.tares.set i (some e) } .done
          (Wire.text v ++ Wire.date e.stored ++ Wire.date expiry ++ [0x00] ++ [0x00]))
    ∧ (s.findTare v = none → none ∉ s.tares →
        (∀ i old, s.tares[i]? = some (some old) → s.tareExpired old = true →
          (∀ j other, s.tares[j]? = some (some other) → s.tareExpired other = true →
            dateBefore other.stored old.stored = false ∧ (dateBefore old.stored other.stored = true ∨ i ≤ j)) →
          exec (.sampleEvent b raw status) s = result { s with tares := s.tares.set i (some e) } .done
            (Wire.text v ++ Wire.date e.stored ++ Wire.date expiry ++ [0x00] ++ Wire.text old.vehicle))
        ∧ ((∀ old ∈ entries s.tares, s.tareExpired old = false) →
          exec (.sampleEvent b raw status) s = result s .tableFull []))

/-- 01 R15, R14: a capture that fails its checks is answered the code and W; the mark is cleared, the ticket is otherwise
unchanged, and the record of the last capture is overwritten. -/
def Obligations.CaptureChecksEndTheWeighing : Prop :=
  ∀ (b : BridgeId) (raw : BitVec 24) (status : Byte) (x : Weighing) (cls : Byte) (w : Int) (code : ResultCode) (s : State),
    s.Captures b raw.toInt x cls → status.getLsbD 0 = false → w = (s.bridge b).capturedWeight raw.toInt →
    (x.task.ticket = none →
      firstFailure [(decide (((s.bridge b).config.capacity : Int) < w), .overload),
                    (decide (w < 20 * (s.bridge b).config.division), .underload)] = some code →
      exec (.sampleEvent b raw status) s = .next
        ((s.setBridge b (s.capturedBridge b raw.toInt w x.task.purpose none code)).landed x.console cls code
          (Wire.bridge b ++ Wire.signed w)))
    ∧ ∀ n i t last, x.task.ticket = some n → s.findTicket n = some (i, t) → t.weighings.getLast? = some last →
        firstFailure [(decide (((s.bridge b).config.capacity : Int) < w), .overload), (decide (w < 0), .underload),
                      (decide ((last.weight : Int) - w < (s.bridge b).config.division), .loadNotLess)] = some code →
        exec (.sampleEvent b raw status) s = .next
          (((s.putTicket i { t with pending := none }).setBridge b
            (s.capturedBridge b raw.toInt w x.task.purpose (some n) code)).landed x.console cls code
              (Wire.bridge b ++ Wire.signed w))

/-! ### Tickets and settlement -/

/-- 02 R26, 03 R47, R55: a lookup finds the one entry that carries the number, the code or the id, and fails exactly when
none does; 02 R27: the number given is carried by no ticket, and every number from the counter up to it is in use. -/
def Obligations.LookupsAndNewNumbers : Prop :=
  (∀ s : State,
     (∀ n i t, s.findTicket n = some (i, t) → s.tickets[i]? = some (some t) ∧ t.number = n)
     ∧ (∀ n, s.findTicket n = none ↔ ∀ t ∈ entries s.tickets, t.number ≠ n)
     ∧ (∀ code i, s.gradeIndex code = some i → (s.gradeDef i).map (·.code) = some code)
     ∧ (∀ code, s.gradeIndex code = none ↔ ∀ d ∈ s.grades.filterMap (·.defn), d.code ≠ code)
     ∧ (∀ v i e, s.findTare v = some (i, e) → s.tares[i]? = some (some e) ∧ e.vehicle = v)
     ∧ ∀ v, s.findTare v = none ↔ ∀ e ∈ entries s.tares, e.vehicle ≠ v)
  ∧ (∀ s : State, (entries s.tickets).length ≤ 63 → 1 ≤ s.ticketCounter → s.ticketCounter ≤ 999999 →
     ∃ k ≤ 63, s.newNumber = (s.ticketCounter - 1 + k) % 999999 + 1 ∧ s.findTicket s.newNumber = none
       ∧ ∀ j < k, (s.findTicket ((s.ticketCounter - 1 + j) % 999999 + 1)).isSome = true)

/-- 02 R39, R40, 04 R78, 03 R57, 06 R125: the refusals of the requests on one ticket, in the order of their tables; 03 R48,
R51, R54, R61, R62: DUPLICATE, NOT_FOUND and GRADE_IN_USE of the grade and tare requests, QUERY-TARE NEXT with no later id
among them. -/
def Obligations.TicketAndTableRequestsAreChecked : Prop :=
  (∀ (p : Port) (fields : List Byte) (s : State) (code : ResultCode),
     (∀ r, Decode.setParty fields = some r → s.ReadyAs p .weigh ∨ s.ReadyAs p .pay →
       firstFailure (setPartyChecks s r.ticket) = some code → exec (.setParty p fields) s = .next (s.answered p 0x17 code []))
     ∧ (∀ n, Decode.ticketOnly fields = some n →
         (s.ReadyAs p .office → firstFailure (voidChecks s n) = some code →
           exec (.voidTicket p fields) s = .next (s.answered p 0x3A code []))
         ∧ (s.Ready p → firstFailure (((s.ticket n).isNone, .notFound) :: s.jobChecks p) = some code →
           exec (.copy p fields) s = .next (s.answered p 0x40 code [])))
     ∧ (∀ r, Decode.setDeduction fields = some r → s.ReadyAs p .weigh → firstFailure (setDeductionChecks s r) = some code →
         1 ≤ r.line → exec (.setDeduction p fields) s = .next (s.answered p 0x16 code []))
     ∧ ∀ r, Decode.applyTare fields = some r → s.ReadyAs p .weigh → firstFailure (applyTareChecks s r) = some code →
         exec (.applyStoredTare p fields) s = .next (s.answered p 0x14 code []))
  ∧ (∀ (p : Port) (fields : List Byte) (s : State),
     (∀ r j d, Decode.setGrade fields = some r → s.ReadyAs p .office → s.gradeDef j = some d → d.code = r.grade.code →
       j ≠ r.index → exec (.setGrade p fields) s = .next (s.answered p 0x30 .duplicate []))
     ∧ (∀ code, Decode.removeGrade fields = some code → s.ReadyAs p .office →
         (s.gradeIndex code = none → exec (.removeGrade p fields) s = .next (s.answered p 0x31 .notFound []))
         ∧ (∀ i, s.gradeIndex code = some i →
             (∃ t ∈ entries s.tickets, ∃ l ∈ t.lines, l.grade = i) ∨ (∃ b x, (s.bridge b).weighing = some x ∧ x.task.grade = some i) →
             exec (.removeGrade p fields) s = .next (s.answered p 0x31 .gradeInUse [])))
     ∧ (∀ v, Decode.deleteTare fields = some v → s.ReadyAs p .office → s.findTare v = none →
         exec (.deleteTare p fields) s = .next (s.answered p 0x32 .notFound []))
     ∧ (∀ code, Decode.queryGrade fields = some (.code code) → s.Ready p → s.gradeIndex code = none →
         exec (.queryGrade p fields) s = .next (s.answered p 0x53 .notFound []))
     ∧ (∀ v, Decode.queryTare fields = some (.exact v) → s.Ready p → s.findTare v = none →
         exec (.queryTare p fields) s = .next (s.answered p 0x54 .notFound []))
     ∧ ∀ v, Decode.queryTare fields = some (.after v) → s.Ready p → (∀ e ∈ entries s.tares, idBefore v e.vehicle = false) →
         exec (.queryTare p fields) s = .next (s.answered p 0x54 .notFound []))

/-- 02 R39: SET-PARTY replaces the fields it carries and keeps the others, the pending mark not tested; R40: VOID-TICKET makes
the ticket VOID, counts it, and offers a slip with its snapshot. -/
def Obligations.SetPartyAndVoidTicket : Prop :=
  (∀ (p : Port) (fields : List Byte) (r : SetPartyReq) (i : Nat) (t : Ticket) (s : State), Decode.setParty fields = some r →
     s.ReadyAs p .weigh ∨ s.ReadyAs p .pay → s.findTicket r.ticket = some (i, t) → t.state ≠ .paid → t.state ≠ .void →
     let vehicle := if r.vehicle.isSome then r.vehicle else t.vehicle
     let seller := if r.seller.isSome then r.seller else t.seller
     exec (.setParty p fields) s = .next ((s.putTicket i { t with vehicle, seller }).answered p 0x17 .done
       (Wire.optText vehicle ++ Wire.optNum 3 seller)))
  ∧ (∀ (p : Port) (fields : List Byte) (n i : Nat) (t : Ticket) (s : State), Decode.ticketOnly fields = some n →
     s.ReadyAs p .office → s.findTicket n = some (i, t) → firstFailure (voidChecks s n) = none →
     let t' : Ticket := { t with state := .void, void := some ⟨s.stamp⟩ }
     let u := { s.putTicket i t' with day := { s.day with voided := min (s.day.voided + 1) 999999999999 } }
     exec (.voidTicket p fields) s = .next ((u.offered p .voidSlip (u.snapTicket t')).answered p 0x3A .done
       (Wire.num 3 n ++ s.slipBytes p)))

/-- 04 R66 to R72: the first settlement binds every line to its grade, computes it, sums the ticket, and holds it for the
longest bound hold when any line is restricted; R67, R70: the figures of every sound settled ticket stay within the limits. -/
def Obligations.FirstSettlementOfATicket : Prop :=
  (∀ (grades : List Grade) (clock : Clock) (t : Ticket),
     (∀ l ∈ t.lines, ∃ d, (grades[l.grade]?).bind (·.defn) = some d ∧ (d.restricted = true ↔ d.holdDays.isSome = true)
       ∧ ∀ n ∈ d.holdDays, 1 ≤ n) →
     ∃ t' f, settleTicket grades clock t = t' ∧ t'.settlement = some ⟨f, none⟩ ∧ t'.lines.length = t.lines.length
       ∧ (∀ (k : Nat) (l : Line) (d : GradeDef), t.lines[k]? = some l → (grades[l.grade]?).bind (·.defn) = some d →
           ∃ x, t'.lines[k]? = some { l with settlement := some x } ∧ x.price = d.price ∧ x.perMille = d.perMille
             ∧ x.restricted = d.restricted ∧ x.holdDays = d.holdDays
             ∧ x.deduction = min l.net (l.manual.getD ((l.net * d.perMille + 500) / 1000))
             ∧ x.payable = l.net - x.deduction ∧ x.value = x.payable * d.price)
       ∧ f.exact = (t'.lines.map fun l => (l.settlement.map (·.value)).getD 0).sum ∧ f.amount = f.exact / 100
       ∧ f.time = (if clock.valid then some clock.now else none)
       ∧ (∀ l ∈ t'.lines, ∀ x ∈ l.settlement, ∀ n ∈ x.holdDays, n ≤ f.holdDays)
       ∧ (f.holdDays = 0 ∨ ∃ l ∈ t'.lines, ∃ x ∈ l.settlement, x.holdDays = some f.holdDays)
       ∧ (t'.state = .held ∧ 0 < f.holdDays ∨ t'.state = .settled ∧ f.holdDays = 0)
       ∧ f.release = (if 0 < f.holdDays ∧ clock.valid = true then some (addDays clock.now.date f.holdDays) else none)
       ∧ { t' with state := t.state, lines := t.lines, settlement := t.settlement } = t)
  ∧ (∀ (t : Ticket) (x : Settlement), t.Sound = true → t.settlement = some x →
     (t.lines.map fun l => (l.settlement.map (·.payable)).getD 0).sum ≤ 200000
     ∧ (∀ l ∈ t.lines, ∀ f ∈ l.settlement, f.payable ≤ l.net ∧ f.value ≤ 199999800000)
     ∧ x.figures.exact ≤ 199999800000 ∧ x.figures.amount ≤ 1999998000)

/-- 04 R79 to R81: SET-DEDUCTION sets the manual deduction of the named line, computes every line again from its bound
fields, keeps the state and the hold, and offers a new slip. -/
def Obligations.SetDeductionResettlesTheTicket : Prop :=
  ∀ (p : Port) (fields : List Byte) (r : SetDeductionReq) (i : Nat) (t : Ticket) (x : Settlement) (s : State),
    Decode.setDeduction fields = some r → s.ReadyAs p .weigh → s.findTicket r.ticket = some (i, t) →
    firstFailure (setDeductionChecks s r) = none → t.settlement = some x → (∀ l ∈ t.lines, l.settlement.isSome = true) →
    ∃ (t' : Ticket) (l : Line) (f : LineSettlement),
      t'.lines.length = t.lines.length
      ∧ (∀ (k : Nat) (a : Line) (y : LineSettlement), t.lines[k]? = some a → a.settlement = some y →
          let m := if k + 1 = r.line then r.manual else a.manual
          let ded := min a.net (m.getD ((a.net * y.perMille + 500) / 1000))
          let y' := { y with deduction := ded, payable := a.net - ded, value := (a.net - ded) * y.price }
          t'.lines[k]? = some { a with manual := m, settlement := some y' })
      ∧ (let exact := (t'.lines.map fun a => (a.settlement.map (·.value)).getD 0).sum
         t' = { t with lines := t'.lines, settlement := some { x with figures := { x.figures with exact, amount := exact / 100 } } })
      ∧ t'.lines[r.line - 1]? = some l ∧ l.settlement = some f
      ∧ exec (.setDeduction p fields) s = .next
          (((s.putTicket i t').offered p .settleSlip ((s.putTicket i t').snapTicket t')).answered p 0x16 .done
            (Wire.num 3 r.ticket ++ Wire.num 1 r.line ++ Wire.optNum 3 l.manual ++ Wire.num 3 f.deduction
              ++ Wire.num 3 f.payable ++ Wire.num 5 f.value
              ++ s.outcomeFields p t' { x.figures with
                  exact := (t'.lines.map fun a => (a.settlement.map (·.value)).getD 0).sum
                  amount := (t'.lines.map fun a => (a.settlement.map (·.value)).getD 0).sum / 100 }))

/-- 02 R45: LIST-TICKETS answers the matching tickets above start-after in ascending order, at most eight, the lowest
first, and a more flag; it changes nothing. -/
def Obligations.ListTicketsInNumberOrder : Prop :=
  ∀ (p : Port) (fields : List Byte) (r : ListTicketsReq) (s : State), Decode.listTickets fields = some r → s.Ready p →
    ∃ (found left : List Ticket),
      exec (.listTickets p fields) s = .next (s.answered p 0x51 .done
        ([BitVec.ofNat 8 found.length] ++ found.flatMap (fun t => Wire.num 3 t.number ++ Wire.ticketState t.state
            ++ Wire.optNum 1 (t.pending.map Fin.val) ++ Wire.optText t.vehicle
            ++ Wire.optNum 4 (t.settlement.map (·.figures.amount)))
          ++ Wire.flag (!left.isEmpty)))
      ∧ (found ++ left).Pairwise (fun t u => t.number ≤ u.number)
      ∧ (found ++ left).Perm ((entries s.tickets).filter fun t =>
          decide (r.after < t.number) && (r.filter.isNone || r.filter == some t.state))
      ∧ found.length ≤ 8 ∧ (left = [] ∨ found.length = 8)

/-- 02 R44, 03 R54, R61, 08 R165, R166: QUERY-TICKET, QUERY-GRADE, QUERY-TARE, QUERY-JOURNAL and QUERY-TOTALS answer what
they are asked for as it stands, and change nothing (field widths that R199 does not name: log 10). -/
def Obligations.RecordQueries : Prop :=
  (∀ (p : Port) (fields : List Byte) (r : QueryTicketReq) (i : Nat) (t : Ticket) (s : State),
     Decode.queryTicket fields = some r → s.Ready p →
     (s.findTicket r.ticket = none → exec (.queryTicket p fields) s = .next (s.answered p 0x50 .notFound []))
     ∧ (s.findTicket r.ticket = some (i, t) →
       exec (.queryTicket p fields) s = .next (s.answered p 0x50 .done (match r.part with
         | .summary =>
           Wire.num 3 r.ticket ++ Wire.num 1 i ++ Wire.ticketState t.state ++ Wire.optNum 1 (t.pending.map Fin.val)
             ++ Wire.optText t.vehicle ++ Wire.optNum 3 t.seller ++ Wire.optStamp t.opened ++ Wire.num 1 t.weighings.length
             ++ Wire.num 1 t.lines.length
             ++ Wire.group (fun x : Settlement => Wire.optStamp x.figures.time ++ Wire.num 5 x.figures.exact
                 ++ Wire.num 4 x.figures.amount ++ Wire.num 1 x.figures.holdDays ++ Wire.optDate x.figures.release
                 ++ Wire.optNum 4 x.slipSerial) t.settlement
             ++ Wire.group (fun x : Payment => Wire.num 1 x.figures.till.val ++ Wire.method x.figures.method
                 ++ Wire.optNum 4 x.figures.cashPaid ++ Wire.optSigned x.figures.rounding ++ Wire.optStamp x.figures.time
                 ++ Wire.optNum 4 x.receiptSerial) t.payment
             ++ Wire.group (fun x : VoidPart => Wire.optStamp x.time) t.void
         | .weighings =>
           Wire.num 3 r.ticket ++ Wire.num 1 t.weighings.length ++ t.weighings.flatMap (fun e =>
             Wire.weighKind e.kind ++ Wire.num 3 e.weight ++ Wire.num 1 e.bridge.val ++ Wire.optStamp e.time)
         | .lines =>
           Wire.num 3 r.ticket ++ Wire.num 1 t.lines.length ++ t.lines.flatMap (fun l =>
             Wire.num 1 l.grade ++ Wire.num 3 l.net ++ Wire.optNum 3 l.manual ++ Wire.group (fun f : LineSettlement =>
               Wire.num 3 f.price ++ Wire.num 2 f.perMille ++ Wire.flag f.restricted ++ Wire.optNum 1 f.holdDays
                 ++ Wire.num 3 f.deduction ++ Wire.num 3 f.payable ++ Wire.num 5 f.value) l.settlement)))))
  ∧ (∀ (p : Port) (fields : List Byte) (s : State), s.Ready p →
     (∀ q i g, Decode.queryGrade fields = some q → s.grades[i]? = some g →
       q = .index i ∨ (∃ code, q = .code code ∧ s.gradeIndex code = some i) →
       exec (.queryGrade p fields) s = .next (s.answered p 0x53 .done
         (Wire.num 1 i ++ (match g.defn with
           | none => [0x00, 0x00, 0xFF]
           | some d => [0x01, 0x01] ++ Wire.num 2 d.code ++ Wire.text d.name ++ Wire.num 3 d.price ++ Wire.num 2 d.perMille
               ++ Wire.flag d.restricted ++ Wire.optNum 1 d.holdDays)
           ++ Wire.num 5 g.dayLines ++ Wire.num 5 g.dayKg ++ Wire.num 5 g.dayValue ++ Wire.flag (s.gradeInUse i))))
     ∧ ∀ q e, Decode.queryTare fields = some q → e ∈ entries s.tares →
         ((∃ v i, q = .exact v ∧ s.findTare v = some (i, e))
           ∨ (∃ v, q = .after v ∧ idBefore v e.vehicle = true
               ∧ ∀ o ∈ entries s.tares, idBefore v o.vehicle = true → o = e ∨ idBefore e.vehicle o.vehicle = true)) →
         exec (.queryTare p fields) s = .next (s.answered p 0x54 .done
           (Wire.text e.vehicle ++ Wire.num 3 e.weight ++ Wire.num 1 e.bridge.val ++ Wire.date e.stored
             ++ Wire.date (addDays e.stored s.tareValidity)
             ++ (if s.clock.valid then Wire.flag (!dateBefore (addDays e.stored s.tareValidity) s.clock.now.date) else [0xFF])
             ++ Wire.num 2 s.tareValidity ++ Wire.num 1 (entries s.tares).length)))
  ∧ (∀ (p : Port) (fields : List Byte) (s : State), s.Ready p →
     (∀ q, Decode.queryJournal fields = some q →
       let wanted : Option JournalEntry := match q with
         | .serial n => s.journal.find? fun e => e.serial == n
         | .newest => s.journal.getLast?
       exec (.queryJournal p fields) s = .next (match wanted with
         | none => s.answered p 0x57 .notFound []
         | some e => s.answered p 0x57 .done
             (Wire.num 4 e.serial ++ Wire.jobKind e.kind ++ Wire.optNum 3 e.ticket ++ Wire.optNum 1 (e.till.map Fin.val)
               ++ Wire.optNum 4 e.copyOf ++ Wire.optNum 4 e.amount ++ Wire.num 1 e.port.val ++ Wire.journalOutcome e.outcome
               ++ Wire.num 1 e.restarts ++ Wire.num 2 s.journal.length ++ Wire.num 4 ((s.journal.map JournalEntry.serial).headD 0)
               ++ Wire.num 4 s.serialCounter)))
     ∧ (Decode.queryTotals fields = some .grand → exec (.queryTotals p fields) s = .next (s.answered p 0x58 .done
         (Wire.num 5 s.grand.daysClosed ++ Wire.num 5 s.grand.payableKg ++ Wire.num 5 s.grand.amountPaid
           ++ Wire.num 5 s.grand.completed ++ Wire.num 5 s.grand.interrupted ++ Wire.num 5 s.grand.abandoned
           ++ Wire.num 1 ([s.openSerials.get 0, s.openSerials.get 1, s.openSerials.get 2, s.openSerials.get 3].countP Option.isSome)
           ++ Wire.num 4 s.serialCounter)))
     ∧ ∀ start, Decode.queryTotals fields = some (.day start) →
         let rows := (List.range s.grades.length).filterMap fun i =>
           (s.grades[i]?).bind fun g =>
             if start ≤ i ∧ 0 < g.dayLines then
               some (Wire.num 1 i ++ Wire.text ((g.defn.map (·.name)).getD []) ++ Wire.num 5 g.dayLines ++ Wire.num 5 g.dayKg
                 ++ Wire.num 5 g.dayValue)
             else none
         let d := s.day
         exec (.queryTotals p fields) s = .next (s.answered p 0x58 .done
           (Wire.num 2 d.businessDay ++ Wire.optStamp d.since ++ Wire.flag d.storeLost ++ Wire.num 5 d.opened
             ++ Wire.num 5 d.settled ++ Wire.num 5 d.paidCash ++ Wire.num 5 d.paidVoucher ++ Wire.num 5 d.voided
             ++ Wire.num 5 d.cashTotal ++ Wire.num 5 d.voucherTotal ++ Wire.signed d.roundingTotal ++ Wire.num 5 d.completed
             ++ Wire.num 5 d.interrupted ++ Wire.num 5 d.abandoned ++ Wire.num 1 (min 4 rows.length) ++ (rows.take 4).flatten
             ++ Wire.flag (decide (4 < rows.length)))))

/-! ### Grades and stored tares -/

/-- 03 R48: SET-GRADE replaces the definition as a whole and keeps the day totals, the flag of its answer resting on the
model's free value (log 11); R51, R62: REMOVE-GRADE, DELETE-TARE and SET-TARE-VALIDITY. -/
def Obligations.GradeAndTareSettings : Prop :=
  (∀ (p : Port) (fields : List Byte) (r : SetGradeReq) (g : Grade) (s : State), Decode.setGrade fields = some r →
     s.ReadyAs p .office → s.grades[r.index]? = some g →
     (∀ j d, s.gradeDef j = some d → d.code = r.grade.code → j = r.index) →
     let g' : Grade := { defn := some r.grade, dayLines := g.dayLines, dayKg := g.dayKg, dayValue := g.dayValue }
     exec (.setGrade p fields) s = .next (({ s with grades := s.grades.set r.index g' }).answered p 0x30 .done
       (Wire.num 1 r.index ++ Wire.num 2 r.grade.code ++ Wire.text r.grade.name ++ Wire.num 3 r.grade.price
         ++ Wire.num 2 r.grade.perMille ++ Wire.flag r.grade.restricted ++ Wire.optNum 1 r.grade.holdDays
         ++ Wire.flag (g.defn.isNone == Config.setGradeFlagWhenEmpty))))
  ∧ (∀ (p : Port) (fields : List Byte) (s : State), s.ReadyAs p .office →
     (∀ code i g, Decode.removeGrade fields = some code → s.gradeIndex code = some i → s.grades[i]? = some g →
       (∀ t ∈ entries s.tickets, ∀ l ∈ t.lines, l.grade ≠ i) → (∀ b x, (s.bridge b).weighing = some x → x.task.grade ≠ some i) →
       exec (.removeGrade p fields) s = .next (({ s with grades := s.grades.set i { g with defn := none } }).answered p 0x31 .done
         (Wire.num 1 i)))
     ∧ (∀ v i e, Decode.deleteTare fields = some v → s.findTare v = some (i, e) →
         exec (.deleteTare p fields) s = .next (({ s with tares := s.tares.set i none }).answered p 0x32 .done
           (Wire.num 3 e.weight ++ Wire.num 1 e.bridge.val ++ Wire.date e.stored)))
     ∧ ∀ days, Decode.setTareValidity fields = some days →
         exec (.setTareValidity p fields) s = .next (({ s with tareValidity := days }).answered p 0x33 .done (Wire.num 2 days)))

/-- 03 R58, 04 R73 to R75: APPLY-STORED-TARE appends the stored weight and its line, settles the ticket, and leaves the
tare entry unchanged. -/
def Obligations.ApplyStoredTareClosesTheTicket : Prop :=
  ∀ (p : Port) (fields : List Byte) (r : ApplyTareReq) (g i j : Nat) (t : Ticket) (v : Text) (e : Tare) (last : WeighEntry)
    (s : State), Decode.applyTare fields = some r → s.ReadyAs p .weigh → firstFailure (applyTareChecks s r) = none →
    s.gradeIndex r.code = some g → s.findTicket r.ticket = some (i, t) → t.vehicle = some v → s.findTare v = some (j, e) →
    t.weighings.getLast? = some last →
    ∃ t' f, t' = settleTicket s.grades s.clock { t with
          pending := none, weighings := t.weighings ++ [⟨.storedTare, e.weight, e.bridge, s.stamp⟩]
          lines := t.lines ++ [⟨g, last.weight - e.weight, r.manual, none⟩] }
      ∧ t'.settlement = some ⟨f, none⟩
      ∧ exec (.applyStoredTare p fields) s = .next ((s.closed i t' p).answered p 0x14 .done
          (Wire.num 3 r.ticket ++ Wire.num 3 e.weight ++ Wire.num 1 e.bridge.val ++ Wire.date e.stored
            ++ Wire.num 1 t.weighings.length ++ Wire.num 3 (last.weight - e.weight) ++ s.outcomeFields p t' f))

/-! ### Payout -/

/-- 05 R89: the cash amount is the nearest multiple of the step, an exact half going down, and the rounding difference
lies in its range; a voucher has neither. -/
def Obligations.CashAmountIsTheNearestStep : Prop :=
  (∀ (amount step : Nat), 0 < step →
    step ∣ cashAmount amount step ∧ 2 * |(cashAmount amount step : Int) - amount| ≤ step
      ∧ (2 * (amount % step) = step → cashAmount amount step = amount - step / 2)
      ∧ cashRounding amount step = (cashAmount amount step : Int) - amount
      ∧ -((step / 2 : Nat) : Int) ≤ cashRounding amount step ∧ cashRounding amount step ≤ (((step + 1) / 2 : Nat) : Int) - 1
      ∧ cashAmount amount 1 = amount ∧ cashAmount 0 step = 0)
  ∧ ∀ (p : Port) (amount step : Nat) (now : Option Stamp),
      (paymentFigures p .voucher amount step now).cashPaid = none ∧ (paymentFigures p .voucher amount step now).rounding = none

/-- 05 R87, R88, R91, R100 to R103, 08 R161: the refusals of PAY, the till requests and DAY-CLOSE, in the order of their
tables, changing nothing. Two answers of PAY in states no run reaches are no entries of R87 but the model's choice (log 19):
ON_HOLD for a HELD ticket without a release date under a valid clock, and the amount 0 for a ticket without a settlement
part. -/
def Obligations.PayoutRequestsAreCheckedInOrder : Prop :=
  ∀ (p : Port) (fields : List Byte) (s : State) (code : ResultCode),
    (∀ r, Decode.pay fields = some r → s.ReadyAs p .pay → firstFailure (payChecks s p r) = some code →
      exec (.pay p fields) s = .next (s.answered p 0x23 code []))
    ∧ (∀ float, Decode.openTill fields = some float → s.ReadyAs p .pay → (s.till p).isOpen = true →
        exec (.openTill p fields) s = .next (s.answered p 0x20 .tillOpen []))
    ∧ (∀ amount, Decode.loadCash fields = some amount → s.ReadyAs p .pay → (s.till p).isOpen = false →
        exec (.loadCash p fields) s = .next (s.answered p 0x21 .tillClosed []))
    ∧ (∀ counted, Decode.closeTill fields = some counted → s.ReadyAs p .pay →
        firstFailure ((!(s.till p).isOpen, .tillClosed) :: s.jobChecks p) = some code →
        exec (.closeTill p fields) s = .next (s.answered p 0x22 code []))
    ∧ (∀ k, Decode.portOnly fields = some k → s.ReadyAs p .office → (s.till k).isOpen = false →
        exec (.forceCloseTill p fields) s = .next (s.answered p 0x24 .tillClosed []))
    ∧ (fields = [] → s.ReadyAs p .office → firstFailure (dayCloseChecks s p) = some code →
        exec (.dayClose p fields) s = .next (s.answered p 0x3B code []))

/-- 05 R90 to R96: a PAY that passes its checks pays by the method of the first line that applies, and changes the
ticket, the till, the seller cash map, the totals and the paired queue in one event (expected cash as U40: log 10; the
rounding balance after a payment of c = 0, where the table and the text of R93 differ: log 22). -/
def Obligations.PayCarriesOutThePayment : Prop :=
  ∀ (p : Port) (fields : List Byte) (r : PayReq) (i : Nat) (t : Ticket) (seller : Nat) (x : Settlement) (s : State),
    Decode.pay fields = some r → s.ReadyAs p .pay → s.findTicket r.ticket = some (i, t) → t.seller = some seller →
    t.settlement = some x → firstFailure (payChecks s p r) = none →
    let amount := x.figures.amount
    let reason := paymentReason s r.method amount seller
    let cash : Bool := reason == .cash
    let c := cashAmount amount s.limits.step
    let k := s.till p
    let t' : Ticket := { t with state := .paid, payment := some ⟨
      { till := p, method := if cash then .cash else .voucher, cashPaid := if cash then some c else none
        rounding := if cash then some ((c : Int) - amount) else none, time := s.stamp }, none⟩ }
    let u := { s with
      tickets := s.tickets.set i (some t')
      tills := s.tills.set p (if cash then
          { k with cashPaid := satAdd k.cashPaid c, rounding := satAddInt k.rounding (c - amount)
                   ticketSum := satAdd k.ticketSum amount, ticketsPaid := satAdd k.ticketsPaid 1 }
        else
          { k with voucherCount := satAdd k.voucherCount 1, voucherAmount := satAdd k.voucherAmount amount
                   ticketSum := satAdd k.ticketSum amount, ticketsPaid := satAdd k.ticketsPaid 1 })
      sellers := if cash then chargeSeller c seller s.sellers else s.sellers
      day := if cash then
          { s.day with paidCash := satAdd s.day.paidCash 1, cashTotal := satAdd s.day.cashTotal c
                       roundingTotal := satAddInt s.day.roundingTotal (c - amount) }
        else { s.day with paidVoucher := satAdd s.day.paidVoucher 1, voucherTotal := satAdd s.day.voucherTotal amount }
      grand := { s.grand with
        payableKg := satAdd s.grand.payableKg (payableSum t.lines)
        amountPaid := satAdd s.grand.amountPaid amount }
      grades := chargeGrades s.grades t.lines }
    exec (.pay p fields) s = .next
      ((u.withJob p (if cash then .payReceipt else .payVoucher) (u.snapTicket t') none).answered p 0x23 .done
        (Wire.num 3 r.ticket ++ Wire.num 4 amount ++ (if cash then [0x00] else [0x01]) ++ reasonCode reason
          ++ Wire.optNum 4 (if cash then some c else none) ++ Wire.optSigned (if cash then some ((c : Int) - amount) else none)
          ++ Wire.optNum 5 (u.sellerCash seller) ++ Wire.num 5 (u.till p).expected.toNat ++ s.nextPosition p))

/-- 05 R94, R95, 03 R53: a cash payment adds to its seller's cash today alone; the lines of a payment add to the day totals
of the grades they name alone. -/
def Obligations.PaymentChargesSellerAndGrades : Prop :=
  (∀ (c seller other : Nat) (s : State), (s.sellers.map (·.seller)).Nodup →
    let u := { s with sellers := chargeSeller c seller s.sellers }
    u.sellerCash seller = some (min ((s.sellerCash seller).getD 0 + c) 999999999999)
    ∧ (other ≠ seller → u.sellerCash other = s.sellerCash other)
    ∧ (u.sellers.map (·.seller)).Nodup
    ∧ u.sellers.length = s.sellers.length + (if (s.sellerCash seller).isNone then 1 else 0))
  ∧ ∀ (grades : List Grade) (lines : List Line) (i : Nat) (g : Grade), grades[i]? = some g →
      let mine := lines.filter fun l => l.grade == i
      let kg := (mine.map fun (l : Line) => (l.settlement.map (·.payable)).getD 0).sum
      let value := (mine.map fun (l : Line) => (l.settlement.map (·.value)).getD 0).sum
      g.dayLines + mine.length ≤ 999999999999 → g.dayKg + kg ≤ 999999999999 → g.dayValue + value ≤ 999999999999 →
      (chargeGrades grades lines)[i]? = some
        { g with dayLines := g.dayLines + mine.length, dayKg := g.dayKg + kg, dayValue := g.dayValue + value }

/-- 05 R86, R100 to R103: SET-PAYOUT-LIMITS, OPEN-TILL and LOAD-CASH; CLOSE-TILL records the count and queues its report;
FORCE-CLOSE-TILL records none and offers its report to the OFFICE console's own queue (field widths that R199 does not name: log 10; answers hold the values in force: log 14). -/
def Obligations.LimitsAndTills : Prop :=
  (∀ (p : Port) (fields : List Byte) (s : State),
     (∀ l, Decode.setPayoutLimits fields = some l → s.ReadyAs p .office →
       exec (.setPayoutLimits p fields) s = .next (({ s with limits := l }).answered p 0x25 .done
         (Wire.num 4 l.ceiling ++ Wire.num 4 l.cap ++ Wire.num 1 l.step)))
     ∧ (∀ float, Decode.openTill fields = some float → s.ReadyAs p .pay → (s.till p).isOpen = false →
         exec (.openTill p fields) s = .next (((s.setTill p
           { isOpen := true, opened := s.stamp, float, cashLoaded := 0, cashPaid := 0, rounding := 0, voucherCount := 0
             voucherAmount := 0, ticketSum := 0, ticketsPaid := 0, counted := none, overShort := none })).answered p 0x20 .done
           (Wire.num 4 float ++ Wire.optStamp s.stamp)))
     ∧ ∀ amount, Decode.loadCash fields = some amount → s.ReadyAs p .pay → (s.till p).isOpen = true →
         let loaded := min ((s.till p).cashLoaded + amount) 999999999999
         exec (.loadCash p fields) s = .next ((s.setTill p { s.till p with cashLoaded := loaded }).answered
           p 0x21 .done (Wire.num 5 loaded ++ Wire.num 5 ((s.till p).float + loaded - (s.till p).cashPaid))))
  ∧ (∀ (p : Port) (fields : List Byte) (s : State),
     (∀ counted, Decode.closeTill fields = some counted → s.ReadyAs p .pay → (s.till p).isOpen = true → s.room p = true →
       let k := s.till p
       let short : Int := (counted : Int) - (k.float + k.cashLoaded - k.cashPaid)
       let k' := { k with isOpen := false, counted := some counted, overShort := some short }
       exec (.closeTill p fields) s = .next
         (((s.setTill p k').withJob p .tillReport (.till p k' k.expected) none).answered p 0x22 .done
           (Wire.num 5 (k.float + k.cashLoaded - k.cashPaid) ++ Wire.num 5 counted ++ Wire.signed short ++ s.nextPosition p)))
     ∧ ∀ j, Decode.portOnly fields = some j → s.ReadyAs p .office → (s.till j).isOpen = true →
         let k := s.till j
         let k' := { k with isOpen := false, counted := none, overShort := none }
         exec (.forceCloseTill p fields) s = .next
           (((s.setTill j k').offered p .tillReport (.till j k' k.expected)).answered p 0x24 .done
             (Wire.num 1 j.val ++ Wire.num 5 (k.float + k.cashLoaded - k.cashPaid) ++ s.slipBytes p)))

/-! ### Receipts and printers -/

/-- 06 R113, R114: SET-HEADER-LINE writes its 48 cells and SET-HEADER-CELL one cell, a character outside 20h to 7Eh being
stored as "?" (how the answer carries the cells and the counts: log 15); R125, R126: COPY queues a new receipt of the
ticket as it stands, with the copy-of serial of its state; 02 R35: its answer reports the bridge of a pending ticket (where in
the answer: log 24). -/
def Obligations.HeaderWritesAndCopies : Prop :=
  ∀ (p : Port) (fields : List Byte) (s : State),
    let stored := fun c : Byte => if 0x20 ≤ c.toNat ∧ c.toNat ≤ 0x7E then c else 0x3F#8
    (∀ r, Decode.setHeaderLine fields = some r → s.ReadyAs p .office →
      let cells := (List.range 48).map fun k => ((r.text[k]?).map stored).getD 0x20#8
      exec (.setHeaderLine p fields) s = .next (({ s with header := s.header.set r.line cells }).answered p 0x35 .done
        (Wire.num 1 r.line ++ Wire.num 1 (r.text.length - 48)
          ++ Wire.num 1 ((r.text.take 48).filter fun (c : Byte) => decide (c.toNat < 0x20 ∨ 0x7E < c.toNat)).length ++ [0x30] ++ cells)))
    ∧ (∀ r l, Decode.setHeaderCell fields = some r → s.ReadyAs p .office → s.header[r.line]? = some l →
        exec (.setHeaderCell p fields) s = .next
          (({ s with header := s.header.set r.line (l.set r.column (stored r.char)) }).answered p 0x36 .done
            (Wire.num 1 r.line ++ Wire.num 1 r.column ++ [stored r.char])))
    ∧ ∀ n i t, Decode.ticketOnly fields = some n → s.Ready p → s.findTicket n = some (i, t) → s.room p = true →
        let serial := match t.state with
          | .loaded => none
          | .paid => t.payment.bind (·.receiptSerial)
          | .settled | .held | .void => t.settlement.bind (·.slipSerial)
        exec (.copy p fields) s = .next ((s.withJob p .copy (s.snapTicket t) serial).answered p 0x40 .done
          (Wire.num 3 n ++ Wire.ticketState t.state ++ Wire.optNum 4 serial ++ s.nextPosition p
            ++ (match t.pending with
                | some b => [BitVec.ofNat 8 b.val]
                | none => [])))

/-- 06 R110, R111, R115, R116, R124: every step keeps every queued snapshot in the ranges of its record and every rendering a
port holds at 1 to 72 printed lines, because every rendering of a job whose snapshot lies in those ranges is 1 to 72 lines,
each of 1 to W characters from 20h to 7Eh with no trailing space. -/
def Obligations.RenderedReceiptsFitThePaper : Prop :=
  (∀ (w : Nat) (header : List Text) (now : Option Stamp) (serial : Nat) (job : Job),
    w ∈ [32, 40, 48] → header.length = 6 → (∀ l ∈ header, ∀ c ∈ l, 0x20 ≤ c.toNat ∧ c.toNat ≤ 0x7E) → stampFits now →
    serial ≤ 99999999 → job.snapshot.Fits →
    1 ≤ (Render.receipt w header now serial job).length ∧ (Render.receipt w header now serial job).length ≤ 72
    ∧ ∀ l ∈ Render.receipt w header now serial job, printedLine w l)
  ∧ ∀ s t : State, s.ReceiptsFit → s.TicketsSound → s.GradesSound → s.TablesSound → s.SettingsSound → s.ClockSound →
      s.NumbersSound → s.ClaimsSound → s.TaresSound → s.JournalSound → step s = .next t → t.ReceiptsFit

/-- 07 R134, R148, 08 R150 to R152: a start takes the counter's serial, makes the journal entry, sets the open-serial
field, and sends line 0 of the rendering (what is sent is the model's record: log 8; the timer: log 3). -/
def Obligations.JobStartTakesASerial : Prop :=
  ∀ (p : Port) (job : Job) (rest : List Job) (s : State), s.startsJob (.jobStart p) = true →
    (s.printer p).queue = job :: rest →
    let n := s.serialCounter
    let x := s.printer p
    let lines := Render.receipt x.width s.header s.stamp n job
    let entry : JournalEntry :=
      { serial := n, kind := job.kind, port := p, outcome := .printing, restarts := 0, copyOf := job.copyOf
        ticket := match job.snapshot with
          | .ticket t => some t.number
          | _ => none
        till := match job.kind, job.snapshot with
          | .tillReport, .till k _ _ => some k
          | .payReceipt, .ticket t | .payVoucher, .ticket t => t.payment.map (·.till)
          | _, _ => none
        amount := match job.kind, job.snapshot with
          | .payReceipt, .ticket t => t.payment.bind (·.cashPaid)
          | .payVoucher, .ticket t => t.settlement.map (·.amount)
          | _, _ => none }
    exec (.jobStart p) s = .next { s.setPrinter p
        { x with
          state := .printing, fault := none, rendered := some lines, lineTimer := some x.timeout
          sent := x.sent ++ [.line (lines.headD [])]
          queue := { job with state := .printing, serial := some n, nextLine := some 0 } :: rest } with
      serialCounter := if n < 99999999 then n + 1 else 1
      journal := (if s.journal.length < 256 then s.journal else s.journal.drop 1) ++ [entry]
      openSerials := s.openSerials.set p (some n) }

/-- 07 R135, R136, R138, 02 R41: DONE taken in PRINTING or LATE sends the next line, the cut, or completes the job; BUSY
restarts the timer; a receipt of n lines is acknowledged by n + 1 DONE bytes (what is sent is the model's record: log 8). A
slip that completes for a VOID ticket with no settlement part records nothing, which is the model's choice (log 21). -/
def Obligations.AcknowledgedLinesAndCompletion : Prop :=
  (∀ (p : Port) (job : Job) (rest : List Job) (lines : List Text) (k : Nat) (s : State),
     s.printerHears p = true → (s.printer p).state = .printing ∨ (s.printer p).state = .late →
     (s.printer p).queue = job :: rest → (s.printer p).rendered = some lines → job.nextLine = some k →
     let x := { s.printer p with state := .printing, lineTimer := some (s.printer p).timeout }
     exec (.statusBusy p) s = .next (s.setPrinter p x)
     ∧ (∀ line, lines[k + 1]? = some line → exec (.statusDone p) s = .next (s.setPrinter p
         { x with queue := { job with nextLine := some (k + 1) } :: rest, sent := x.sent ++ [.line line] }))
     ∧ (k + 1 = lines.length → exec (.statusDone p) s = .next (s.setPrinter p
         { x with queue := { job with nextLine := some lines.length } :: rest, sent := x.sent ++ [.cut] }))
     ∧ ∀ n, k = lines.length → job.serial = some n → exec (.statusDone p) s = .next
         { s.setPrinter p { x with state := .ready, fault := none, lineTimer := none, queue := rest, rendered := none } with
           journal := s.journal.map fun (e : JournalEntry) =>
             if e.serial = n ∧ e.outcome = .printing then { e with outcome := .complete } else e
           openSerials := s.openSerials.set p none
           day := { s.day with completed := min (s.day.completed + 1) 999999999999 }
           grand := { s.grand with completed := min (s.grand.completed + 1) 999999999999 }
           tickets := match job.snapshot.ticketNumber.bind s.findTicket with
             | none => s.tickets
             | some (i, t) => s.tickets.set i (some (match job.kind with
               | .settleSlip => if t.state = .loaded then t
                   else { t with settlement := t.settlement.map fun y => { y with slipSerial := some n } }
               | .payReceipt | .payVoucher => if t.state = .paid then
                   { t with payment := t.payment.map fun y =>
                       { y with receiptSerial := if y.receiptSerial.isSome then y.receiptSerial else some n } }
                   else t
               | _ => t)) })
  ∧ (∀ (p : Port) (job : Job) (rest : List Job) (lines : List Text) (n : Nat) (after : List Instr) (s : State),
     s.printerHears p = true → (s.printer p).state = .printing → (s.printer p).queue = job :: rest →
     (s.printer p).rendered = some lines → lines ≠ [] → job.nextLine = some 0 → job.serial = some n →
     ∃ t, Host.Core.run core (lines.length + 1)
         { s with pending := List.replicate (lines.length + 1) (.statusDone p) ++ after } = .next t
       ∧ (t.printer p).sent = (s.printer p).sent ++ (lines.drop 1).map .line ++ [.cut] ∧ (t.printer p).queue = rest
       ∧ (t.printer p).state = .ready ∧ t.openSerials.get p = none ∧ t.pending = after)

/-- 07 R129, R130, R137, R139, R140: a fault byte pauses the head job in PRINTING and LATE; READY outside a job; and the
expiry of the line timer, which probes, makes a PRINTING port LATE, and pauses the job of a LATE one. -/
def Obligations.PrinterStatusAndTimeouts : Prop :=
  ∀ (p : Port) (s : State), s.printerHears p = true →
    let x := s.printer p
    let probed := { x with sent := x.sent ++ [.probe], lineTimer := some x.timeout }
    let paused := (x.queue.take 1).map (fun j => { j with state := .paused }) ++ x.queue.drop 1
    (∀ r, exec (.faultByte p r) s = .next (s.setPrinter p
      { x with
        state := .faulted, fault := some r, lineTimer := some x.timeout
        queue := if x.state = .printing ∨ x.state = .late then paused else x.queue
        rendered := if x.state = .printing ∨ x.state = .late then none else x.rendered }))
    ∧ (x.state = .unknown ∨ (x.state = .offline ∨ x.state = .faulted) ∧ (∀ j ∈ x.queue.head?, j.state ≠ .paused) →
        exec (.statusReady p) s = .next (s.setPrinter p { x with state := .ready, fault := none, lineTimer := none }))
    ∧ (x.state = .ready ∨ x.state = .printing → exec (.statusReady p) s = .next s)
    ∧ (x.state ≠ .printing ∧ x.state ≠ .late → exec (.statusDone p) s = .next s ∧ exec (.statusBusy p) s = .next s)
    ∧ (x.lineTimer.isSome = true → x.state = .unknown ∨ x.state = .offline ∨ x.state = .faulted →
        exec (.lineTimerExpiry p) s = .next (s.setPrinter p probed))
    ∧ (x.lineTimer.isSome = true → x.state = .printing →
        exec (.lineTimerExpiry p) s = .next (s.setPrinter p { probed with state := .late }))
    ∧ (x.lineTimer.isSome = true → x.state = .late → exec (.lineTimerExpiry p) s = .next
        (s.setPrinter p { probed with state := .offline, queue := paused, rendered := none }))

/-- 07 R141, R138: READY restarts a PAUSED head, and the job of a LATE port, from line 0 under the same serial, with the
restart count of the job and of its journal entry raised. -/
def Obligations.PausedJobIsRestarted : Prop :=
  ∀ (p : Port) (job : Job) (rest : List Job) (n : Nat) (s : State), s.printerHears p = true →
    (s.printer p).queue = job :: rest → job.serial = some n →
    (s.printer p).state = .late
      ∨ ((s.printer p).state = .offline ∨ (s.printer p).state = .faulted) ∧ job.state = .paused →
    let x := s.printer p
    let job' := { job with state := .printing, restarts := min (job.restarts + 1) 255, nextLine := some 0 }
    let lines := Render.receipt x.width s.header s.stamp n job'
    exec (.statusReady p) s = .next { s.setPrinter p
        { x with
          state := .printing, fault := none, rendered := some lines, lineTimer := some x.timeout
          sent := x.sent ++ [.line (lines.headD [])], queue := job' :: rest } with
      journal := s.journal.map fun (e : JournalEntry) =>
        if e.serial = n ∧ e.outcome = .printing then { e with restarts := min (e.restarts + 1) 255 } else e }

/-- 07 R142: DISCARD-JOB removes a QUEUED or PAUSED head, the PAUSED one as ABANDONED, and finds no other job to remove;
R144: SET-PRINTER replaces both values of the port (its answer holds the two values: log 14). -/
def Obligations.DiscardJobAndSetPrinter : Prop :=
  ∀ (p : Port) (s : State), s.Ready p →
    ((s.printer p).queue = [] ∨ (∃ job rest, (s.printer p).queue = job :: rest ∧ job.state = .printing) →
      exec (.discardJob p []) s = .next (s.answered p 0x41 .noJob []))
    ∧ (∀ job rest, (s.printer p).queue = job :: rest →
        let u := s.setPrinter p { s.printer p with queue := rest }
        let fields := Wire.jobKind job.kind ++ Wire.optNum 3 job.snapshot.ticketNumber ++ Wire.optNum 4 job.serial
          ++ Wire.num 1 rest.length
        (job.state = .queued → exec (.discardJob p []) s = .next (u.answered p 0x41 .done fields))
        ∧ ∀ n, job.state = .paused → job.serial = some n → exec (.discardJob p []) s = .next
            (({ u with
                journal := s.journal.map fun (e : JournalEntry) =>
                  if e.serial = n ∧ e.outcome = JournalOutcome.printing then { e with outcome := JournalOutcome.abandoned } else e
                openSerials := s.openSerials.set p none
                day := { s.day with abandoned := min (s.day.abandoned + 1) 999999999999 }
                grand := { s.grand with abandoned := min (s.grand.abandoned + 1) 999999999999 } }).answered p 0x41 .done fields))
    ∧ ∀ fields r, Decode.setPrinter fields = some r → (s.console p).role = .office →
        exec (.setPrinter p fields) s = .next
          ((s.setPrinter r.port { s.printer r.port with width := r.width, timeout := r.timeout }).answered p 0x37 .done
            (Wire.num 1 r.width ++ Wire.num 1 r.timeout))

/-! ### Totals and clock -/

/-- 08 R161 to R163, 02 R43, 03 R53, 05 R106: DAY-CLOSE queues the report of the day as it stood, clears the day and the
grade totals, frees the PAID and VOID tickets, and empties the seller cash map. -/
def Obligations.DayCloseEndsTheDay : Prop :=
  ∀ (p : Port) (s : State), s.ReadyAs p .office → firstFailure (dayCloseChecks s p) = none →
    let rows := (List.range s.grades.length).filterMap fun i => (s.grades[i]?).bind fun g =>
      if 0 < g.dayLines then some (⟨i, (g.defn.map (·.name)).getD [], g.dayLines, g.dayKg, g.dayValue⟩ : GradeRow) else none
    let next := if s.day.businessDay < 65535 then s.day.businessDay + 1 else 1
    let gone := fun t : Ticket => t.state == .paid || t.state == .void
    exec (.dayClose p []) s = .next (({ s.withJob p .dayReport (.day s.day s.stamp rows) none with
        day :=
          { businessDay := next, since := s.stamp, storeLost := false, opened := 0, settled := 0, paidCash := 0
            paidVoucher := 0, voided := 0, cashTotal := 0, voucherTotal := 0, roundingTotal := 0, completed := 0
            interrupted := 0, abandoned := 0 }
        grand := { s.grand with daysClosed := min (s.grand.daysClosed + 1) 999999999999 }
        grades := s.grades.map fun (g : Grade) => { g with dayLines := 0, dayKg := 0, dayValue := 0 }
        tickets := s.tickets.map fun (slot : Option Ticket) => slot.bind fun t => if gone t then none else some t
        sellers := [] }).answered p 0x3B .done
      (Wire.num 2 s.day.businessDay ++ Wire.num 2 next ++ Wire.num 1 ((entries s.tickets).filter gone).length
        ++ Wire.num 1 ((entries s.tickets).filter fun t => !gone t).length ++ s.nextPosition p))

/-- 09 R169: a second boundary moves the clock one second on through its whole cycle, to a real date; R176: ALIGN-MINUTE
moves it to the nearest whole minute, halves up, and is refused while the clock is invalid. -/
def Obligations.SecondBoundaryAndAlignment : Prop :=
  ∀ s : State, s.ClockSound →
    (∃ u : State, u.ClockSound ∧ secondNumber u.clock.now = (secondNumber s.clock.now + 1) % (86400 * calendarDays)
      ∧ u.clock.phase = 0 ∧ u.clock.valid = s.clock.valid ∧ u = { s with clock := u.clock }
      ∧ exec .secondBoundary s = .next u)
    ∧ ∀ p, s.ReadyAs p .office →
        (s.clock.valid = false → exec (.alignMinute p []) s = .next (s.answered p 0x39 .clockInvalid []))
        ∧ (s.clock.valid = true → ∃ u : State,
            let correction : Int := if s.clock.now.time.second ≤ 29 then -s.clock.now.time.second else 60 - s.clock.now.time.second
            u.ClockSound ∧ u.clock.now.time.second = 0
            ∧ (secondNumber u.clock.now : Int) = (secondNumber s.clock.now + correction) % (86400 * calendarDays)
            ∧ u.clock.phase = 0 ∧ u.clock.valid = true ∧ u = { s with clock := u.clock }
            ∧ exec (.alignMinute p []) s = .next (u.answered p 0x39 .done (Wire.stamp u.clock.now ++ Wire.signed correction)))

/-- 09 R174, 04 R77: SET-CLOCK sets the reading and the valid flag, and dates every undated HELD ticket from the date set
(the second phase stands at 0: log 3; the answer holds the values in force: log 14). -/
def Obligations.SetClockDatesTheTickets : Prop :=
  ∀ (p : Port) (fields : List Byte) (now : Stamp) (s : State), Decode.setClock fields = some now → s.ReadyAs p .office →
    let undated := fun t : Ticket => t.state == .held && t.settlement.any fun x => x.figures.release.isNone
    let date := fun t : Ticket =>
      if undated t then
        { t with settlement := t.settlement.map fun x =>
            { x with figures := { x.figures with release := some (addDays now.date x.figures.holdDays) } } }
      else t
    exec (.setClock p fields) s = .next (({ s with
        clock := { now, phase := 0, valid := true }, tickets := s.tickets.map fun (slot : Option Ticket) => slot.map date }).answered p 0x38 .done
      (Wire.date now.date ++ Wire.time now.time ++ Wire.flag s.clock.valid
        ++ Wire.num 1 ((entries s.tickets).filter undated).length))

/-- 09 R172, R173: dates are ordered by the days counted from 2000-01-01, which tell them apart; adding n days counts n
days on, and stops at 2099-12-31. -/
def Obligations.DaysAreAddedAndCompared : Prop :=
  ∀ a b : Date, dateValid a = true → dateValid b = true →
    (dateBefore a b = true ↔ dayNumber a < dayNumber b) ∧ (dayNumber a = dayNumber b → a = b)
    ∧ ∀ n, dateValid (addDays a n) = true ∧ dayNumber (addDays a n) = min (dayNumber a + n) (dayNumber ⟨2099, 12, 31⟩)

/-! ### Supplies and resets -/

/-- 11 R202, 10 R195, 01 R19, 02 R25, 07 R146: main reset loses the main domain and clears every mark, and the backup domain
keeps its contents; a second cause adds only itself. The values stand from the assertion on, and role, presence and
beams are held until the release (log 17). -/
def Obligations.MainResetLosesTheMainDomain : Prop :=
  ∀ (cause : ResetCause) (s : State),
    (s.inReset = false → exec (.mainReset cause) s = .next { s with
      resetByPin := cause == .resetN, resetBySupply := cause == .vcore
      consoles := Four.ofFn fun p =>
        { role := (s.console p).role, rx := .idle, interByteTimer := false, inFlight := none, answers := [], tx := .idle
          busy := false }
      bridges := Pair.ofFn fun b =>
        { config := (s.bridge b).config, link := .down, staleTimer := none, latest := none, zeroOffset := 0, dividerCount := 0
          reference := none, steady := 0, entryBeam := (s.bridge b).entryBeam, exitBeam := (s.bridge b).exitBeam
          weighing := none, lastCapture := none, rx := .hunting }
      printers := Four.ofFn fun p =>
        { present := (s.printer p).present, state := if (s.printer p).present then .unknown else .absent, fault := none
          lineTimer := none, queue := [], rendered := none, width := (s.printer p).width, timeout := (s.printer p).timeout
          sent := [] }
      tickets := s.tickets.map fun (slot : Option Ticket) => slot.map fun t => { t with pending := none } })
    ∧ (s.inReset = true → exec (.mainReset cause) s = .next { s with
        resetByPin := s.resetByPin || cause == .resetN, resetBySupply := s.resetBySupply || cause == .vcore })

/-- 11 R202, R204, 10 R181, 01 R2, 07 R146, 08 R154: the release latches the straps, reads the beams, brings every port up,
and makes each receipt that was open INTERRUPTED; without a reset there is no release (log 4). -/
def Obligations.ReleaseBringsThePartUp : Prop :=
  ∀ (pins : ReleasePins) (s : State),
    (s.inReset = false → exec (.mainResetRelease pins) s = .next s)
    ∧ (s.inReset = true →
        let open' := [s.openSerials.get 0, s.openSerials.get 1, s.openSerials.get 2, s.openSerials.get 3]
        let n := open'.countP Option.isSome
        let beam := fun high => if high then Beam.clear else .broken
        exec (.mainResetRelease pins) s = .next { s with
          resetByPin := false, resetBySupply := false
          consoles := Four.ofFn fun p =>
            { role := match pins.consoleStraps.get p with
                | (false, false) => .off
                | (false, true) => .weigh
                | (true, false) => .pay
                | (true, true) => .office
              rx := .idle, interByteTimer := false, inFlight := none, answers := [], tx := .idle, busy := false }
          bridges := Pair.ofFn fun b =>
            { config := (s.bridge b).config, link := .down, staleTimer := none, latest := none, zeroOffset := 0
              dividerCount := 0, reference := none, steady := 0, entryBeam := beam (pins.entryBeams.get b)
              exitBeam := beam (pins.exitBeams.get b), weighing := none, lastCapture := none, rx := .hunting }
          printers := Four.ofFn fun p =>
            { present := pins.printerStraps.get p, state := if pins.printerStraps.get p then .unknown else .absent
              fault := none, lineTimer := if pins.printerStraps.get p then some (s.printer p).timeout else none
              queue := [], rendered := none, width := (s.printer p).width, timeout := (s.printer p).timeout
              sent := if pins.printerStraps.get p then [.probe] else [] }
          tickets := s.tickets.map fun (slot : Option Ticket) => slot.map fun t => { t with pending := none }
          journal := s.journal.map fun (e : JournalEntry) =>
            if e.outcome = .printing ∧ some e.serial ∈ open' then { e with outcome := .interrupted } else e
          openSerials := ⟨none, none, none, none⟩
          day := { s.day with interrupted := if n = 0 then s.day.interrupted else satAdd s.day.interrupted n }
          grand := { s.grand with interrupted := if n = 0 then s.grand.interrupted else satAdd s.grand.interrupted n } })

/-- 11 R203: a backup power-on reset comes with a main reset and loads every backup power-on value; the release that
follows leaves the part as State.reset says, with the pins that log 1 chooses. -/
def Obligations.BackupPowerOnReset : Prop :=
  ∀ s : State,
    (∃ u, exec .backupPowerOnReset s = .next u ∧ u.inReset = true
      ∧ (∀ b, (u.bridge b).config = ⟨60000, 20, 1, 5, 1, 15, 1000, true⟩)
      ∧ u.tickets = List.replicate 64 none ∧ u.ticketCounter = 1 ∧ u.grades = List.replicate 40 ⟨none, 0, 0, 0⟩
      ∧ u.tares = List.replicate 96 none ∧ u.tareValidity = 90
      ∧ (∀ p, u.till p = ⟨false, none, 0, 0, 0, 0, 0, 0, 0, 0, none, none⟩) ∧ u.sellers = []
      ∧ u.limits = ⟨100000, 250000, 5⟩ ∧ (∀ p, (u.printer p).width = 40 ∧ (u.printer p).timeout = 3)
      ∧ u.journal = [] ∧ u.serialCounter = 1 ∧ (∀ p, u.openSerials.get p = none)
      ∧ u.day = ⟨1, none, true, 0, 0, 0, 0, 0, 0, 0, 0, 0, 0, 0⟩ ∧ u.grand = ⟨0, 0, 0, 0, 0, 0⟩
      ∧ u.clock = ⟨⟨⟨2000, 1, 1⟩, ⟨0, 0, 0⟩⟩, 0, false⟩ ∧ u.header = List.replicate 6 (List.replicate 48 0x20#8))
    ∧ Host.Core.run core 2 { s with pending := [.backupPowerOnReset, .mainResetRelease resetPins] } = .next State.reset

/-! ### Laws that every step keeps -/

/-- The state after reset meets every law below, and that of the receipts above (its pins are the model's choice: log 1): the
till law of 05 R99 among them, and the count of 08 R156, which is 0. -/
def Obligations.ResetStateIsSound : Prop :=
  State.reset.ConsolesSound ∧ State.reset.TablesSound ∧ State.reset.SettingsSound ∧ State.reset.ClockSound
  ∧ State.reset.NumbersSound ∧ State.reset.ClaimsSound ∧ State.reset.TicketsSound ∧ State.reset.GradesSound
  ∧ State.reset.TaresSound ∧ State.reset.PayoutSound ∧ State.reset.PrintersSound ∧ State.reset.JournalSound
  ∧ State.reset.ReceiptsFit ∧ (∀ p, (State.reset.till p).balanced) ∧ State.reset.startsAccounted = 0

/-- 10 R180 to R194: every step keeps the console ports sound: at most four places spoken for, BUSY high exactly while a
request is in flight, the transmitter idle exactly on an empty queue, the timer running exactly in a frame. -/
def Obligations.StepsKeepConsolesSound : Prop :=
  ∀ s t : State, s.ConsolesSound → step s = .next t → t.ConsolesSound

/-- 02 R22, 03 R46, R55, 06 R112, 01 R1, R2, 05 R86, 07 R127, 09 R169: every step keeps the sizes of the tables, every setting in
its range, and a real date and time in the clock. -/
def Obligations.StepsKeepTablesSettingsAndClock : Prop :=
  ∀ s t : State, step s = .next t →
    (s.TablesSound → t.TablesSound) ∧ (s.SettingsSound → t.SettingsSound) ∧ (s.ClockSound → t.ClockSound)

/-- 02 R22, R27, 01 R12, 02 R34, R35, 10 R190: every step keeps the ticket numbers distinct, and keeps requests in flight,
pending weighings and pending marks in agreement. -/
def Obligations.StepsKeepNumbersAndClaims : Prop :=
  ∀ s t : State, s.TablesSound → s.NumbersSound → step s = .next t →
    t.NumbersSound ∧ (s.ClaimsSound → t.ClaimsSound)

/-- 02 R23, R24, 04 R69: every step keeps every ticket record sound: the weighings and nets agree, and the amount is the sum
of payable times bound price, divided by 100. -/
def Obligations.StepsKeepTicketsSound : Prop :=
  ∀ s t : State, s.TicketsSound → s.TablesSound → s.NumbersSound → s.ClaimsSound → s.GradesSound → s.TaresSound →
    s.SettingsSound → step s = .next t → t.TicketsSound

/-- 03 R46, R47, R51, R55: every step keeps grade codes distinct, every grade that a line or a pending weighing names
DEFINED, and vehicle ids distinct. -/
def Obligations.StepsKeepGradesAndTares : Prop :=
  ∀ s t : State, step s = .next t → (s.GradesSound → t.GradesSound) ∧ (s.TaresSound → s.SettingsSound → t.TaresSound)

/-- 05 R99, R106: every step keeps the expected cash of an OPEN till at or above zero and the seller cash map without a
double, and keeps the balance of a till until a counter saturates (the rounding balance after a payment of c = 0, where the
table and the text of R93 differ, is the model's choice: log 22). -/
def Obligations.StepsKeepPayoutSound : Prop :=
  ∀ s t : State, step s = .next t →
    (s.PayoutSound → t.PayoutSound)
    ∧ ∀ p, (s.till p).balanced → (t.till p).unsaturated → (t.till p).balanced

/-- 07 R127, R131, 08 R152: every step keeps the printer ports and queues sound: at most eight jobs, only the head started,
a serial exactly when started, and the open-serial field naming it. -/
def Obligations.StepsKeepPrintersSound : Prop :=
  ∀ s t : State, s.PrintersSound → step s = .next t → t.PrintersSound

/-- 08 R151, R153, 07 R148: every step keeps at most 256 entries with serials in unbroken sequence, and an entry in a final
outcome is not changed: it stays, or falls out as the oldest at a start, or goes with a backup power-on reset. -/
def Obligations.StepsKeepTheJournal : Prop :=
  ∀ (c : Instr) (s t : State), s.JournalSound → exec c s = .next t →
    t.JournalSound
    ∧ ∀ e ∈ s.journal, e.outcome ≠ .printing →
        e ∈ t.journal ∨ c = .backupPowerOnReset
          ∨ s.startsJob c = true ∧ s.journal.length = 256 ∧ s.journal.head? = some e

/-- 08 R156: completed plus interrupted plus abandoned receipts of the grand totals, plus the open serials, count every
job start since the last backup power-on reset: that reset makes the sum 0, a start adds one, and no other command changes
it, until a grand counter saturates. -/
def Obligations.EveryStartIsAccountedFor : Prop :=
  ∀ (c : Instr) (s t : State), s.PrintersSound → exec c s = .next t →
    t.grand.completed < 999999999999 → t.grand.interrupted < 999999999999 → t.grand.abandoned < 999999999999 →
    (c = .backupPowerOnReset → t.startsAccounted = 0)
    ∧ (c ≠ .backupPowerOnReset → t.startsAccounted = s.startsAccounted + (if s.startsJob c = true then 1 else 0))
end

