-- ==== Sys2Proof/Laws/Decode.lean ====
section
/-! SUPPORT. One lemma for each field reader of `Decode`: it reads a value exactly from the bytes that `Wire` gives that value
(11 R197), and leaves what follows them. -/

namespace Sys2Proof

open Sys2Proof.Machine

namespace Decode

theorem num_length (n v : Nat) : (Wire.num n v).length = n := by
  induction n generalizing v with
  | zero => rfl
  | succ n ih => simp [Wire.num, ih]

theorem beValue_append (bs : List Byte) (b : Byte) : beValue (bs ++ [b]) = beValue bs * 256 + b.toNat := by
  simp [beValue]

theorem beValue_lt (bs : List Byte) : beValue bs < 256 ^ bs.length := by
  induction bs using List.reverseRecOn with
  | nil => simp [beValue]
  | append_singleton bs b ih =>
    have := b.isLt
    rw [beValue_append, List.length_append, List.length_singleton, Nat.pow_succ]
    omega

theorem beValue_num (n v : Nat) (h : v < 256 ^ n) : beValue (Wire.num n v) = v := by
  induction n generalizing v with
  | zero => simpa [beValue, Wire.num] using (Nat.lt_one_iff.1 h).symm
  | succ n ih =>
    rw [Wire.num, beValue_append, ih _ (Nat.div_lt_of_lt_mul (by rw [Nat.pow_succ] at h; omega)), BitVec.toNat_ofNat]
    omega

theorem num_beValue (bs : List Byte) : Wire.num bs.length (beValue bs) = bs := by
  induction bs using List.reverseRecOn with
  | nil => rfl
  | append_singleton bs b ih =>
    have hb := b.isLt
    have h1 : (beValue bs * 256 + b.toNat) / 256 = beValue bs := by omega
    have h2 : BitVec.ofNat 8 (beValue bs * 256 + b.toNat) = b := by
      apply BitVec.eq_of_toNat_eq
      rw [BitVec.toNat_ofNat]
      omega
    rw [beValue_append, List.length_append, List.length_singleton, Wire.num, h1, h2, ih]

/-- `n` bytes at the front of a list, read as one number. -/
theorem num_prefix_iff (n v : Nat) (bs rest : List Byte) :
    (n ≤ bs.length ∧ beValue (bs.take n) = v ∧ bs.drop n = rest) ↔ v < 256 ^ n ∧ bs = Wire.num n v ++ rest := by
  constructor
  · rintro ⟨h, rfl, rfl⟩
    have hl : (bs.take n).length = n := by simp [h]
    have hn := num_beValue (bs.take n)
    have hv := beValue_lt (bs.take n)
    rw [hl] at hn hv
    exact ⟨hv, by rw [hn, List.take_append_drop]⟩
  · rintro ⟨h, rfl⟩
    refine ⟨by simp [num_length], ?_, ?_⟩
    · rw [List.take_append_of_le_length (by rw [num_length]), List.take_of_length_le (by rw [num_length]), beValue_num n v h]
    · rw [List.drop_append_of_le_length (by rw [num_length]), List.drop_of_length_le (by rw [num_length]), List.nil_append]

theorem takeNum_iff (n v : Nat) (bs rest : List Byte) :
    takeNum n bs = some (v, rest) ↔ v < 256 ^ n ∧ bs = Wire.num n v ++ rest := by
  rw [← num_prefix_iff, takeNum]
  by_cases h : bs.length < n
  · simp [h, Nat.not_le.2 h]
  · simp [h, Nat.not_lt.1 h]

theorem beValue_absent (n : Nat) : beValue (Wire.absent n) + 1 = 256 ^ n := by
  induction n with
  | zero => rfl
  | succ n ih =>
    rw [Wire.absent, List.replicate_succ', beValue_append, Nat.pow_succ, ← ih, Wire.absent]
    show _ * 256 + 255 + 1 = _
    omega

theorem takeOptNum_iff (n : Nat) (v : Option Nat) (bs rest : List Byte) :
    takeOptNum n bs = some (v, rest) ↔ (∀ x ∈ v, x + 1 < 256 ^ n) ∧ bs = Wire.optNum n v ++ rest := by
  have ones : ∀ l : List Byte, l.length = n → (l.all (· == 0xFF#8) = true ↔ l = Wire.absent n) := by
    rintro l rfl
    simp [Wire.absent, List.eq_replicate_iff]
  have absent_length : (Wire.absent n).length = n := by simp [Wire.absent]
  rw [takeOptNum]
  by_cases h : bs.length < n
  · have hne : bs ≠ Wire.optNum n v ++ rest := by
      rintro rfl
      cases v <;> simp [Wire.optNum, num_length, absent_length] at h
    simp [h, hne]
  · have hl : (bs.take n).length = n := by simp; omega
    simp only [h, if_false, Option.some.injEq, Prod.mk.injEq]
    cases v with
    | none =>
      by_cases ha : (bs.take n).all (· == 0xFF#8) = true
      · rw [if_pos ha]
        have he := (ones _ hl).1 ha
        simp only [true_and, Option.not_mem_none, Wire.optNum]
        constructor
        · rintro rfl
          exact ⟨fun _ h => h.elim, by rw [← he, List.take_append_drop]⟩
        · rintro ⟨-, hb⟩
          rw [hb, List.drop_append_of_le_length (by omega), List.drop_of_length_le (by omega), List.nil_append]
      · rw [if_neg ha]
        simp only [reduceCtorEq, false_and, Option.not_mem_none, Wire.optNum, false_iff, not_and]
        rintro - rfl
        refine ha ((ones _ hl).2 ?_)
        rw [List.take_append_of_le_length (by omega), List.take_of_length_le (by omega)]
    | some x =>
      simp only [Option.mem_some_iff, forall_eq', Wire.optNum]
      have hp := num_prefix_iff n x bs rest
      by_cases ha : (bs.take n).all (· == 0xFF#8) = true
      · rw [if_pos ha]
        simp only [reduceCtorEq, false_and, false_iff, not_and]
        rintro hx hb
        have hv := (hp.2 ⟨by omega, hb⟩).2.1
        rw [(ones _ hl).1 ha] at hv
        have := beValue_absent n
        omega
      · rw [if_neg ha, Option.some.injEq]
        constructor
        · rintro ⟨h1, h2⟩
          obtain ⟨hx, hb⟩ := hp.1 ⟨by omega, h1, h2⟩
          refine ⟨?_, hb⟩
          rcases Nat.lt_or_ge (x + 1) (256 ^ n) with hlt | hge
          · exact hlt
          · refine absurd ((ones _ hl).2 ?_) ha
            have hm := num_beValue (Wire.absent n)
            have := beValue_absent n
            rw [absent_length] at hm
            rw [hb, List.take_append_of_le_length (by rw [num_length]), List.take_of_length_le (by rw [num_length]),
              show x = beValue (Wire.absent n) by omega, hm]
        · rintro ⟨hx, hb⟩
          exact ((hp.2 ⟨by omega, hb⟩)).2

theorem takeText_iff (t : Text) (bs rest : List Byte) :
    takeText bs = some (t, rest) ↔ t.length ≤ 255 ∧ bs = Wire.text t ++ rest := by
  cases bs with
  | nil => simp [takeText, Wire.text]
  | cons l bs =>
    have hl := l.isLt
    simp only [takeText, Wire.text, List.cons_append, List.cons.injEq]
    split
    · rename_i h
      simp only [reduceCtorEq, false_iff, not_and]
      rintro ht rfl rfl
      simp at h
      omega
    · rename_i h
      simp only [Option.some.injEq, Prod.mk.injEq]
      constructor
      · rintro ⟨rfl, rfl⟩
        have : min l.toNat bs.length = l.toNat := by omega
        exact ⟨by simp; omega, by simp [this], by rw [List.take_append_drop]⟩
      · rintro ⟨ht, rfl, rfl⟩
        have : t.length % 256 = t.length := by omega
        simp [this]

theorem takeFlag_iff (b : Bool) (bs rest : List Byte) : takeFlag bs = some (b, rest) ↔ bs = Wire.flag b ++ rest := by
  cases bs with
  | nil => cases b <;> simp [takeFlag, Wire.flag]
  | cons x bs => cases b <;> simp only [takeFlag] <;> split <;> simp_all [Wire.flag]

theorem takeBridge_iff (b : BridgeId) (bs rest : List Byte) : takeBridge bs = some (b, rest) ↔ bs = Wire.bridge b ++ rest := by
  cases bs with
  | nil => simp [takeBridge, Wire.bridge, Wire.num]
  | cons x bs =>
    match b with
    | 0 => simp only [takeBridge]; split <;> simp_all [Wire.bridge, Wire.num]
    | 1 => simp only [takeBridge]; split <;> simp_all [Wire.bridge, Wire.num]

theorem takePort_iff (p : Port) (bs rest : List Byte) :
    takePort bs = some (p, rest) ↔ bs = [BitVec.ofNat 8 p.val] ++ rest := by
  cases bs with
  | nil => simp [takePort]
  | cons x bs =>
    have hx := x.isLt
    have hp := p.isLt
    simp only [takePort, List.singleton_append, List.cons.injEq]
    split
    · simp only [Option.some.injEq, Prod.mk.injEq, Fin.ext_iff, and_congr_left_iff]
      rintro rfl
      rw [← BitVec.toNat_inj, BitVec.toNat_ofNat]
      omega
    · rename_i h
      simp only [reduceCtorEq, false_iff, not_and]
      rintro rfl
      simp at h
      omega

theorem finish_iff {α : Type} (rest : List Byte) (ok : Bool) (a b : α) :
    finish rest ok a = some b ↔ rest = [] ∧ ok = true ∧ a = b := by
  cases rest <;> cases ok <;> simp [finish]

theorem vehicleOk_length (v : Text) (h : vehicleOk v = true) : v ≠ [] ∧ v.length ≤ 255 := by
  simp only [vehicleOk, Bool.and_eq_true, decide_eq_true_eq] at h
  exact ⟨by rintro rfl; simp at h, by omega⟩

theorem takeOptVehicle_iff (v : Option Text) (bs rest : List Byte) :
    takeOptVehicle bs = some (v, rest) ↔ (∀ x ∈ v, vehicleOk x = true) ∧ bs = Wire.optText v ++ rest := by
  constructor
  · intro h
    unfold takeOptVehicle at h
    cases ht : takeText bs with
    | none => simp [ht] at h
    | some y =>
      obtain ⟨-, hb⟩ := (takeText_iff y.1 bs y.2).1 ht
      rw [ht] at h
      simp only at h
      split at h
      · rename_i he
        obtain ⟨rfl, rfl⟩ : none = v ∧ y.2 = rest := by simpa using h
        rw [List.isEmpty_iff.1 he] at hb
        exact ⟨fun _ hx => (Option.not_mem_none _ hx).elim, hb⟩
      · split at h
        · rename_i hv
          obtain ⟨rfl, rfl⟩ : some y.1 = v ∧ y.2 = rest := by simpa using h
          exact ⟨fun x hx => Option.mem_some_iff.1 hx ▸ hv, hb⟩
        · simp at h
  · rintro ⟨hv, rfl⟩
    have ht : takeText (Wire.optText v ++ rest) = some (v.getD [], rest) :=
      (takeText_iff _ _ _).2 ⟨by cases v with
        | none => simp
        | some x => exact (vehicleOk_length x (hv x rfl)).2, rfl⟩
    unfold takeOptVehicle
    rw [ht]
    cases v with
    | none => simp
    | some x => simp [(vehicleOk_length x (hv x rfl)).1, hv x rfl]

end Decode

end Sys2Proof
end

