-- ==== Sys2Proof/Laws/State.lean ====
section
/-! SUPPORT. The small laws of the containers and of the state's updates: what each update leaves in each field, and what
each accessor reads after it. -/

namespace Sys2Proof

/-! ### The containers -/

@[simp] theorem Four.get_set_self {α : Type} (f : Four α) (i : Port) (a : α) : (f.set i a).get i = a := by
  fin_cases i <;> rfl

theorem Four.get_set_of_ne {α : Type} (f : Four α) {i j : Port} (a : α) (h : j ≠ i) : (f.set i a).get j = f.get j := by
  fin_cases i <;> fin_cases j <;> first | rfl | exact absurd rfl h

theorem Four.get_set {α : Type} (f : Four α) (i j : Port) (a : α) :
    (f.set i a).get j = if j = i then a else f.get j := by
  fin_cases i <;> fin_cases j <;> rfl

@[simp] theorem Four.set_set {α : Type} (f : Four α) (i : Port) (a b : α) : (f.set i a).set i b = f.set i b := by
  fin_cases i <;> rfl

@[simp] theorem Four.set_get {α : Type} (f : Four α) (i : Port) : f.set i (f.get i) = f := by
  fin_cases i <;> rfl

@[simp] theorem Four.get_ofFn {α : Type} (g : Port → α) (i : Port) : (Four.ofFn g).get i = g i := by
  fin_cases i <;> rfl

theorem Four.mem_toList {α : Type} (f : Four α) (a : α) : a ∈ f.toList ↔ ∃ i, f.get i = a := by
  constructor
  · intro h
    simp only [Four.toList, List.mem_cons, List.not_mem_nil, or_false] at h
    obtain h | h | h | h := h
    · exact ⟨0, h.symm⟩
    · exact ⟨1, h.symm⟩
    · exact ⟨2, h.symm⟩
    · exact ⟨3, h.symm⟩
  · rintro ⟨i, rfl⟩
    fin_cases i <;> simp [Four.toList, Four.get]

theorem Four.ext_get {α : Type} {f g : Four α} (h : ∀ i, f.get i = g.get i) : f = g := by
  cases f; cases g
  simp only [Four.mk.injEq]
  exact ⟨h 0, h 1, h 2, h 3⟩

@[simp] theorem Pair.get_set_self {α : Type} (f : Pair α) (i : BridgeId) (a : α) : (f.set i a).get i = a := by
  fin_cases i <;> rfl

theorem Pair.get_set_of_ne {α : Type} (f : Pair α) {i j : BridgeId} (a : α) (h : j ≠ i) : (f.set i a).get j = f.get j := by
  fin_cases i <;> fin_cases j <;> first | rfl | exact absurd rfl h

theorem Pair.get_set {α : Type} (f : Pair α) (i j : BridgeId) (a : α) :
    (f.set i a).get j = if j = i then a else f.get j := by
  fin_cases i <;> fin_cases j <;> rfl

@[simp] theorem Pair.set_set {α : Type} (f : Pair α) (i : BridgeId) (a b : α) : (f.set i a).set i b = f.set i b := by
  fin_cases i <;> rfl

@[simp] theorem Pair.set_get {α : Type} (f : Pair α) (i : BridgeId) : f.set i (f.get i) = f := by
  fin_cases i <;> rfl

@[simp] theorem Pair.get_ofFn {α : Type} (g : BridgeId → α) (i : BridgeId) : (Pair.ofFn g).get i = g i := by
  fin_cases i <;> rfl

theorem Pair.mem_toList {α : Type} (f : Pair α) (a : α) : a ∈ f.toList ↔ ∃ i, f.get i = a := by
  constructor
  · intro h
    simp only [Pair.toList, List.mem_cons, List.not_mem_nil, or_false] at h
    obtain h | h := h
    · exact ⟨0, h.symm⟩
    · exact ⟨1, h.symm⟩
  · rintro ⟨i, rfl⟩
    fin_cases i <;> simp [Pair.toList, Pair.get]

theorem Pair.ext_get {α : Type} {f g : Pair α} (h : ∀ i, f.get i = g.get i) : f = g := by
  cases f; cases g
  simp only [Pair.mk.injEq]
  exact ⟨h 0, h 1⟩

namespace Machine

/-! ### `setConsole` -/

@[simp] theorem State.setConsole_resetByPin (s : State) (p : Port) (x : Console) :
    (s.setConsole p x).resetByPin = s.resetByPin := rfl
@[simp] theorem State.setConsole_resetBySupply (s : State) (p : Port) (x : Console) :
    (s.setConsole p x).resetBySupply = s.resetBySupply := rfl
@[simp] theorem State.setConsole_consoles (s : State) (p : Port) (x : Console) :
    (s.setConsole p x).consoles = s.consoles.set p x := rfl
@[simp] theorem State.setConsole_bridges (s : State) (p : Port) (x : Console) :
    (s.setConsole p x).bridges = s.bridges := rfl
@[simp] theorem State.setConsole_tickets (s : State) (p : Port) (x : Console) :
    (s.setConsole p x).tickets = s.tickets := rfl
@[simp] theorem State.setConsole_ticketCounter (s : State) (p : Port) (x : Console) :
    (s.setConsole p x).ticketCounter = s.ticketCounter := rfl
@[simp] theorem State.setConsole_grades (s : State) (p : Port) (x : Console) :
    (s.setConsole p x).grades = s.grades := rfl
@[simp] theorem State.setConsole_tares (s : State) (p : Port) (x : Console) :
    (s.setConsole p x).tares = s.tares := rfl
@[simp] theorem State.setConsole_tareValidity (s : State) (p : Port) (x : Console) :
    (s.setConsole p x).tareValidity = s.tareValidity := rfl
@[simp] theorem State.setConsole_tills (s : State) (p : Port) (x : Console) :
    (s.setConsole p x).tills = s.tills := rfl
@[simp] theorem State.setConsole_sellers (s : State) (p : Port) (x : Console) :
    (s.setConsole p x).sellers = s.sellers := rfl
@[simp] theorem State.setConsole_limits (s : State) (p : Port) (x : Console) :
    (s.setConsole p x).limits = s.limits := rfl
@[simp] theorem State.setConsole_header (s : State) (p : Port) (x : Console) :
    (s.setConsole p x).header = s.header := rfl
@[simp] theorem State.setConsole_printers (s : State) (p : Port) (x : Console) :
    (s.setConsole p x).printers = s.printers := rfl
@[simp] theorem State.setConsole_journal (s : State) (p : Port) (x : Console) :
    (s.setConsole p x).journal = s.journal := rfl
@[simp] theorem State.setConsole_serialCounter (s : State) (p : Port) (x : Console) :
    (s.setConsole p x).serialCounter = s.serialCounter := rfl
@[simp] theorem State.setConsole_openSerials (s : State) (p : Port) (x : Console) :
    (s.setConsole p x).openSerials = s.openSerials := rfl
@[simp] theorem State.setConsole_day (s : State) (p : Port) (x : Console) :
    (s.setConsole p x).day = s.day := rfl
@[simp] theorem State.setConsole_grand (s : State) (p : Port) (x : Console) :
    (s.setConsole p x).grand = s.grand := rfl
@[simp] theorem State.setConsole_clock (s : State) (p : Port) (x : Console) :
    (s.setConsole p x).clock = s.clock := rfl
@[simp] theorem State.setConsole_pending (s : State) (p : Port) (x : Console) :
    (s.setConsole p x).pending = s.pending := rfl
@[simp] theorem State.setConsole_inReset (s : State) (p : Port) (x : Console) : (s.setConsole p x).inReset = s.inReset := rfl
@[simp] theorem State.setConsole_stamp (s : State) (p : Port) (x : Console) : (s.setConsole p x).stamp = s.stamp := rfl
@[simp] theorem State.setConsole_today (s : State) (p : Port) (x : Console) : (s.setConsole p x).today = s.today := rfl
@[simp] theorem State.setConsole_bridge (s : State) (p : Port) (x : Console) (k : BridgeId) :
    (s.setConsole p x).bridge k = s.bridge k := rfl
@[simp] theorem State.setConsole_printer (s : State) (p : Port) (x : Console) (k : Port) :
    (s.setConsole p x).printer k = s.printer k := rfl
@[simp] theorem State.setConsole_till (s : State) (p : Port) (x : Console) (k : Port) :
    (s.setConsole p x).till k = s.till k := rfl
@[simp] theorem State.setConsole_findTicket (s : State) (p : Port) (x : Console) (n : Nat) :
    (s.setConsole p x).findTicket n = s.findTicket n := rfl

/-! ### `setBridge` -/

@[simp] theorem State.setBridge_resetByPin (s : State) (b : BridgeId) (x : Bridge) :
    (s.setBridge b x).resetByPin = s.resetByPin := rfl
@[simp] theorem State.setBridge_resetBySupply (s : State) (b : BridgeId) (x : Bridge) :
    (s.setBridge b x).resetBySupply = s.resetBySupply := rfl
@[simp] theorem State.setBridge_consoles (s : State) (b : BridgeId) (x : Bridge) :
    (s.setBridge b x).consoles = s.consoles := rfl
@[simp] theorem State.setBridge_bridges (s : State) (b : BridgeId) (x : Bridge) :
    (s.setBridge b x).bridges = s.bridges.set b x := rfl
@[simp] theorem State.setBridge_tickets (s : State) (b : BridgeId) (x : Bridge) :
    (s.setBridge b x).tickets = s.tickets := rfl
@[simp] theorem State.setBridge_ticketCounter (s : State) (b : BridgeId) (x : Bridge) :
    (s.setBridge b x).ticketCounter = s.ticketCounter := rfl
@[simp] theorem State.setBridge_grades (s : State) (b : BridgeId) (x : Bridge) :
    (s.setBridge b x).grades = s.grades := rfl
@[simp] theorem State.setBridge_tares (s : State) (b : BridgeId) (x : Bridge) :
    (s.setBridge b x).tares = s.tares := rfl
@[simp] theorem State.setBridge_tareValidity (s : State) (b : BridgeId) (x : Bridge) :
    (s.setBridge b x).tareValidity = s.tareValidity := rfl
@[simp] theorem State.setBridge_tills (s : State) (b : BridgeId) (x : Bridge) :
    (s.setBridge b x).tills = s.tills := rfl
@[simp] theorem State.setBridge_sellers (s : State) (b : BridgeId) (x : Bridge) :
    (s.setBridge b x).sellers = s.sellers := rfl
@[simp] theorem State.setBridge_limits (s : State) (b : BridgeId) (x : Bridge) :
    (s.setBridge b x).limits = s.limits := rfl
@[simp] theorem State.setBridge_header (s : State) (b : BridgeId) (x : Bridge) :
    (s.setBridge b x).header = s.header := rfl
@[simp] theorem State.setBridge_printers (s : State) (b : BridgeId) (x : Bridge) :
    (s.setBridge b x).printers = s.printers := rfl
@[simp] theorem State.setBridge_journal (s : State) (b : BridgeId) (x : Bridge) :
    (s.setBridge b x).journal = s.journal := rfl
@[simp] theorem State.setBridge_serialCounter (s : State) (b : BridgeId) (x : Bridge) :
    (s.setBridge b x).serialCounter = s.serialCounter := rfl
@[simp] theorem State.setBridge_openSerials (s : State) (b : BridgeId) (x : Bridge) :
    (s.setBridge b x).openSerials = s.openSerials := rfl
@[simp] theorem State.setBridge_day (s : State) (b : BridgeId) (x : Bridge) :
    (s.setBridge b x).day = s.day := rfl
@[simp] theorem State.setBridge_grand (s : State) (b : BridgeId) (x : Bridge) :
    (s.setBridge b x).grand = s.grand := rfl
@[simp] theorem State.setBridge_clock (s : State) (b : BridgeId) (x : Bridge) :
    (s.setBridge b x).clock = s.clock := rfl
@[simp] theorem State.setBridge_pending (s : State) (b : BridgeId) (x : Bridge) :
    (s.setBridge b x).pending = s.pending := rfl
@[simp] theorem State.setBridge_inReset (s : State) (b : BridgeId) (x : Bridge) : (s.setBridge b x).inReset = s.inReset := rfl
@[simp] theorem State.setBridge_stamp (s : State) (b : BridgeId) (x : Bridge) : (s.setBridge b x).stamp = s.stamp := rfl
@[simp] theorem State.setBridge_today (s : State) (b : BridgeId) (x : Bridge) : (s.setBridge b x).today = s.today := rfl
@[simp] theorem State.setBridge_console (s : State) (b : BridgeId) (x : Bridge) (k : Port) :
    (s.setBridge b x).console k = s.console k := rfl
@[simp] theorem State.setBridge_printer (s : State) (b : BridgeId) (x : Bridge) (k : Port) :
    (s.setBridge b x).printer k = s.printer k := rfl
@[simp] theorem State.setBridge_till (s : State) (b : BridgeId) (x : Bridge) (k : Port) :
    (s.setBridge b x).till k = s.till k := rfl
@[simp] theorem State.setBridge_findTicket (s : State) (b : BridgeId) (x : Bridge) (n : Nat) :
    (s.setBridge b x).findTicket n = s.findTicket n := rfl

/-! ### `setPrinter` -/

@[simp] theorem State.setPrinter_resetByPin (s : State) (p : Port) (x : Printer) :
    (s.setPrinter p x).resetByPin = s.resetByPin := rfl
@[simp] theorem State.setPrinter_resetBySupply (s : State) (p : Port) (x : Printer) :
    (s.setPrinter p x).resetBySupply = s.resetBySupply := rfl
@[simp] theorem State.setPrinter_consoles (s : State) (p : Port) (x : Printer) :
    (s.setPrinter p x).consoles = s.consoles := rfl
@[simp] theorem State.setPrinter_bridges (s : State) (p : Port) (x : Printer) :
    (s.setPrinter p x).bridges = s.bridges := rfl
@[simp] theorem State.setPrinter_tickets (s : State) (p : Port) (x : Printer) :
    (s.setPrinter p x).tickets = s.tickets := rfl
@[simp] theorem State.setPrinter_ticketCounter (s : State) (p : Port) (x : Printer) :
    (s.setPrinter p x).ticketCounter = s.ticketCounter := rfl
@[simp] theorem State.setPrinter_grades (s : State) (p : Port) (x : Printer) :
    (s.setPrinter p x).grades = s.grades := rfl
@[simp] theorem State.setPrinter_tares (s : State) (p : Port) (x : Printer) :
    (s.setPrinter p x).tares = s.tares := rfl
@[simp] theorem State.setPrinter_tareValidity (s : State) (p : Port) (x : Printer) :
    (s.setPrinter p x).tareValidity = s.tareValidity := rfl
@[simp] theorem State.setPrinter_tills (s : State) (p : Port) (x : Printer) :
    (s.setPrinter p x).tills = s.tills := rfl
@[simp] theorem State.setPrinter_sellers (s : State) (p : Port) (x : Printer) :
    (s.setPrinter p x).sellers = s.sellers := rfl
@[simp] theorem State.setPrinter_limits (s : State) (p : Port) (x : Printer) :
    (s.setPrinter p x).limits = s.limits := rfl
@[simp] theorem State.setPrinter_header (s : State) (p : Port) (x : Printer) :
    (s.setPrinter p x).header = s.header := rfl
@[simp] theorem State.setPrinter_printers (s : State) (p : Port) (x : Printer) :
    (s.setPrinter p x).printers = s.printers.set p x := rfl
@[simp] theorem State.setPrinter_journal (s : State) (p : Port) (x : Printer) :
    (s.setPrinter p x).journal = s.journal := rfl
@[simp] theorem State.setPrinter_serialCounter (s : State) (p : Port) (x : Printer) :
    (s.setPrinter p x).serialCounter = s.serialCounter := rfl
@[simp] theorem State.setPrinter_openSerials (s : State) (p : Port) (x : Printer) :
    (s.setPrinter p x).openSerials = s.openSerials := rfl
@[simp] theorem State.setPrinter_day (s : State) (p : Port) (x : Printer) :
    (s.setPrinter p x).day = s.day := rfl
@[simp] theorem State.setPrinter_grand (s : State) (p : Port) (x : Printer) :
    (s.setPrinter p x).grand = s.grand := rfl
@[simp] theorem State.setPrinter_clock (s : State) (p : Port) (x : Printer) :
    (s.setPrinter p x).clock = s.clock := rfl
@[simp] theorem State.setPrinter_pending (s : State) (p : Port) (x : Printer) :
    (s.setPrinter p x).pending = s.pending := rfl
@[simp] theorem State.setPrinter_inReset (s : State) (p : Port) (x : Printer) : (s.setPrinter p x).inReset = s.inReset := rfl
@[simp] theorem State.setPrinter_stamp (s : State) (p : Port) (x : Printer) : (s.setPrinter p x).stamp = s.stamp := rfl
@[simp] theorem State.setPrinter_today (s : State) (p : Port) (x : Printer) : (s.setPrinter p x).today = s.today := rfl
@[simp] theorem State.setPrinter_console (s : State) (p : Port) (x : Printer) (k : Port) :
    (s.setPrinter p x).console k = s.console k := rfl
@[simp] theorem State.setPrinter_bridge (s : State) (p : Port) (x : Printer) (k : BridgeId) :
    (s.setPrinter p x).bridge k = s.bridge k := rfl
@[simp] theorem State.setPrinter_till (s : State) (p : Port) (x : Printer) (k : Port) :
    (s.setPrinter p x).till k = s.till k := rfl
@[simp] theorem State.setPrinter_findTicket (s : State) (p : Port) (x : Printer) (n : Nat) :
    (s.setPrinter p x).findTicket n = s.findTicket n := rfl

/-! ### `setTill` -/

@[simp] theorem State.setTill_resetByPin (s : State) (p : Port) (x : Till) :
    (s.setTill p x).resetByPin = s.resetByPin := rfl
@[simp] theorem State.setTill_resetBySupply (s : State) (p : Port) (x : Till) :
    (s.setTill p x).resetBySupply = s.resetBySupply := rfl
@[simp] theorem State.setTill_consoles (s : State) (p : Port) (x : Till) :
    (s.setTill p x).consoles = s.consoles := rfl
@[simp] theorem State.setTill_bridges (s : State) (p : Port) (x : Till) :
    (s.setTill p x).bridges = s.bridges := rfl
@[simp] theorem State.setTill_tickets (s : State) (p : Port) (x : Till) :
    (s.setTill p x).tickets = s.tickets := rfl
@[simp] theorem State.setTill_ticketCounter (s : State) (p : Port) (x : Till) :
    (s.setTill p x).ticketCounter = s.ticketCounter := rfl
@[simp] theorem State.setTill_grades (s : State) (p : Port) (x : Till) :
    (s.setTill p x).grades = s.grades := rfl
@[simp] theorem State.setTill_tares (s : State) (p : Port) (x : Till) :
    (s.setTill p x).tares = s.tares := rfl
@[simp] theorem State.setTill_tareValidity (s : State) (p : Port) (x : Till) :
    (s.setTill p x).tareValidity = s.tareValidity := rfl
@[simp] theorem State.setTill_tills (s : State) (p : Port) (x : Till) :
    (s.setTill p x).tills = s.tills.set p x := rfl
@[simp] theorem State.setTill_sellers (s : State) (p : Port) (x : Till) :
    (s.setTill p x).sellers = s.sellers := rfl
@[simp] theorem State.setTill_limits (s : State) (p : Port) (x : Till) :
    (s.setTill p x).limits = s.limits := rfl
@[simp] theorem State.setTill_header (s : State) (p : Port) (x : Till) :
    (s.setTill p x).header = s.header := rfl
@[simp] theorem State.setTill_printers (s : State) (p : Port) (x : Till) :
    (s.setTill p x).printers = s.printers := rfl
@[simp] theorem State.setTill_journal (s : State) (p : Port) (x : Till) :
    (s.setTill p x).journal = s.journal := rfl
@[simp] theorem State.setTill_serialCounter (s : State) (p : Port) (x : Till) :
    (s.setTill p x).serialCounter = s.serialCounter := rfl
@[simp] theorem State.setTill_openSerials (s : State) (p : Port) (x : Till) :
    (s.setTill p x).openSerials = s.openSerials := rfl
@[simp] theorem State.setTill_day (s : State) (p : Port) (x : Till) :
    (s.setTill p x).day = s.day := rfl
@[simp] theorem State.setTill_grand (s : State) (p : Port) (x : Till) :
    (s.setTill p x).grand = s.grand := rfl
@[simp] theorem State.setTill_clock (s : State) (p : Port) (x : Till) :
    (s.setTill p x).clock = s.clock := rfl
@[simp] theorem State.setTill_pending (s : State) (p : Port) (x : Till) :
    (s.setTill p x).pending = s.pending := rfl
@[simp] theorem State.setTill_inReset (s : State) (p : Port) (x : Till) : (s.setTill p x).inReset = s.inReset := rfl
@[simp] theorem State.setTill_stamp (s : State) (p : Port) (x : Till) : (s.setTill p x).stamp = s.stamp := rfl
@[simp] theorem State.setTill_today (s : State) (p : Port) (x : Till) : (s.setTill p x).today = s.today := rfl
@[simp] theorem State.setTill_console (s : State) (p : Port) (x : Till) (k : Port) :
    (s.setTill p x).console k = s.console k := rfl
@[simp] theorem State.setTill_bridge (s : State) (p : Port) (x : Till) (k : BridgeId) :
    (s.setTill p x).bridge k = s.bridge k := rfl
@[simp] theorem State.setTill_printer (s : State) (p : Port) (x : Till) (k : Port) :
    (s.setTill p x).printer k = s.printer k := rfl
@[simp] theorem State.setTill_findTicket (s : State) (p : Port) (x : Till) (n : Nat) :
    (s.setTill p x).findTicket n = s.findTicket n := rfl

/-! ### `putTicket` -/

@[simp] theorem State.putTicket_resetByPin (s : State) (i : Nat) (x : Ticket) :
    (s.putTicket i x).resetByPin = s.resetByPin := rfl
@[simp] theorem State.putTicket_resetBySupply (s : State) (i : Nat) (x : Ticket) :
    (s.putTicket i x).resetBySupply = s.resetBySupply := rfl
@[simp] theorem State.putTicket_consoles (s : State) (i : Nat) (x : Ticket) :
    (s.putTicket i x).consoles = s.consoles := rfl
@[simp] theorem State.putTicket_bridges (s : State) (i : Nat) (x : Ticket) :
    (s.putTicket i x).bridges = s.bridges := rfl
@[simp] theorem State.putTicket_tickets (s : State) (i : Nat) (x : Ticket) :
    (s.putTicket i x).tickets = s.tickets.set i (some x) := rfl
@[simp] theorem State.putTicket_ticketCounter (s : State) (i : Nat) (x : Ticket) :
    (s.putTicket i x).ticketCounter = s.ticketCounter := rfl
@[simp] theorem State.putTicket_grades (s : State) (i : Nat) (x : Ticket) :
    (s.putTicket i x).grades = s.grades := rfl
@[simp] theorem State.putTicket_tares (s : State) (i : Nat) (x : Ticket) :
    (s.putTicket i x).tares = s.tares := rfl
@[simp] theorem State.putTicket_tareValidity (s : State) (i : Nat) (x : Ticket) :
    (s.putTicket i x).tareValidity = s.tareValidity := rfl
@[simp] theorem State.putTicket_tills (s : State) (i : Nat) (x : Ticket) :
    (s.putTicket i x).tills = s.tills := rfl
@[simp] theorem State.putTicket_sellers (s : State) (i : Nat) (x : Ticket) :
    (s.putTicket i x).sellers = s.sellers := rfl
@[simp] theorem State.putTicket_limits (s : State) (i : Nat) (x : Ticket) :
    (s.putTicket i x).limits = s.limits := rfl
@[simp] theorem State.putTicket_header (s : State) (i : Nat) (x : Ticket) :
    (s.putTicket i x).header = s.header := rfl
@[simp] theorem State.putTicket_printers (s : State) (i : Nat) (x : Ticket) :
    (s.putTicket i x).printers = s.printers := rfl
@[simp] theorem State.putTicket_journal (s : State) (i : Nat) (x : Ticket) :
    (s.putTicket i x).journal = s.journal := rfl
@[simp] theorem State.putTicket_serialCounter (s : State) (i : Nat) (x : Ticket) :
    (s.putTicket i x).serialCounter = s.serialCounter := rfl
@[simp] theorem State.putTicket_openSerials (s : State) (i : Nat) (x : Ticket) :
    (s.putTicket i x).openSerials = s.openSerials := rfl
@[simp] theorem State.putTicket_day (s : State) (i : Nat) (x : Ticket) :
    (s.putTicket i x).day = s.day := rfl
@[simp] theorem State.putTicket_grand (s : State) (i : Nat) (x : Ticket) :
    (s.putTicket i x).grand = s.grand := rfl
@[simp] theorem State.putTicket_clock (s : State) (i : Nat) (x : Ticket) :
    (s.putTicket i x).clock = s.clock := rfl
@[simp] theorem State.putTicket_pending (s : State) (i : Nat) (x : Ticket) :
    (s.putTicket i x).pending = s.pending := rfl
@[simp] theorem State.putTicket_inReset (s : State) (i : Nat) (x : Ticket) : (s.putTicket i x).inReset = s.inReset := rfl
@[simp] theorem State.putTicket_stamp (s : State) (i : Nat) (x : Ticket) : (s.putTicket i x).stamp = s.stamp := rfl
@[simp] theorem State.putTicket_today (s : State) (i : Nat) (x : Ticket) : (s.putTicket i x).today = s.today := rfl
@[simp] theorem State.putTicket_console (s : State) (i : Nat) (x : Ticket) (k : Port) :
    (s.putTicket i x).console k = s.console k := rfl
@[simp] theorem State.putTicket_bridge (s : State) (i : Nat) (x : Ticket) (k : BridgeId) :
    (s.putTicket i x).bridge k = s.bridge k := rfl
@[simp] theorem State.putTicket_printer (s : State) (i : Nat) (x : Ticket) (k : Port) :
    (s.putTicket i x).printer k = s.printer k := rfl
@[simp] theorem State.putTicket_till (s : State) (i : Nat) (x : Ticket) (k : Port) :
    (s.putTicket i x).till k = s.till k := rfl

/-! ### `answer` -/

@[simp] theorem State.answer_resetByPin (s : State) (p : Port) (x : Answer) :
    (s.answer p x).resetByPin = s.resetByPin := rfl
@[simp] theorem State.answer_resetBySupply (s : State) (p : Port) (x : Answer) :
    (s.answer p x).resetBySupply = s.resetBySupply := rfl
@[simp] theorem State.answer_consoles (s : State) (p : Port) (x : Answer) :
    (s.answer p x).consoles = s.consoles.set p ((s.console p).push x) := rfl
@[simp] theorem State.answer_bridges (s : State) (p : Port) (x : Answer) :
    (s.answer p x).bridges = s.bridges := rfl
@[simp] theorem State.answer_tickets (s : State) (p : Port) (x : Answer) :
    (s.answer p x).tickets = s.tickets := rfl
@[simp] theorem State.answer_ticketCounter (s : State) (p : Port) (x : Answer) :
    (s.answer p x).ticketCounter = s.ticketCounter := rfl
@[simp] theorem State.answer_grades (s : State) (p : Port) (x : Answer) :
    (s.answer p x).grades = s.grades := rfl
@[simp] theorem State.answer_tares (s : State) (p : Port) (x : Answer) :
    (s.answer p x).tares = s.tares := rfl
@[simp] theorem State.answer_tareValidity (s : State) (p : Port) (x : Answer) :
    (s.answer p x).tareValidity = s.tareValidity := rfl
@[simp] theorem State.answer_tills (s : State) (p : Port) (x : Answer) :
    (s.answer p x).tills = s.tills := rfl
@[simp] theorem State.answer_sellers (s : State) (p : Port) (x : Answer) :
    (s.answer p x).sellers = s.sellers := rfl
@[simp] theorem State.answer_limits (s : State) (p : Port) (x : Answer) :
    (s.answer p x).limits = s.limits := rfl
@[simp] theorem State.answer_header (s : State) (p : Port) (x : Answer) :
    (s.answer p x).header = s.header := rfl
@[simp] theorem State.answer_printers (s : State) (p : Port) (x : Answer) :
    (s.answer p x).printers = s.printers := rfl
@[simp] theorem State.answer_journal (s : State) (p : Port) (x : Answer) :
    (s.answer p x).journal = s.journal := rfl
@[simp] theorem State.answer_serialCounter (s : State) (p : Port) (x : Answer) :
    (s.answer p x).serialCounter = s.serialCounter := rfl
@[simp] theorem State.answer_openSerials (s : State) (p : Port) (x : Answer) :
    (s.answer p x).openSerials = s.openSerials := rfl
@[simp] theorem State.answer_day (s : State) (p : Port) (x : Answer) :
    (s.answer p x).day = s.day := rfl
@[simp] theorem State.answer_grand (s : State) (p : Port) (x : Answer) :
    (s.answer p x).grand = s.grand := rfl
@[simp] theorem State.answer_clock (s : State) (p : Port) (x : Answer) :
    (s.answer p x).clock = s.clock := rfl
@[simp] theorem State.answer_pending (s : State) (p : Port) (x : Answer) :
    (s.answer p x).pending = s.pending := rfl
@[simp] theorem State.answer_inReset (s : State) (p : Port) (x : Answer) : (s.answer p x).inReset = s.inReset := rfl
@[simp] theorem State.answer_stamp (s : State) (p : Port) (x : Answer) : (s.answer p x).stamp = s.stamp := rfl
@[simp] theorem State.answer_today (s : State) (p : Port) (x : Answer) : (s.answer p x).today = s.today := rfl
@[simp] theorem State.answer_bridge (s : State) (p : Port) (x : Answer) (k : BridgeId) :
    (s.answer p x).bridge k = s.bridge k := rfl
@[simp] theorem State.answer_printer (s : State) (p : Port) (x : Answer) (k : Port) :
    (s.answer p x).printer k = s.printer k := rfl
@[simp] theorem State.answer_till (s : State) (p : Port) (x : Answer) (k : Port) :
    (s.answer p x).till k = s.till k := rfl
@[simp] theorem State.answer_findTicket (s : State) (p : Port) (x : Answer) (n : Nat) :
    (s.answer p x).findTicket n = s.findTicket n := rfl

/-! ### `beginFlight` -/

@[simp] theorem State.beginFlight_resetByPin (s : State) (p : Port) (c : Byte) (b : BridgeId) :
    (s.beginFlight p c b).resetByPin = s.resetByPin := rfl
@[simp] theorem State.beginFlight_resetBySupply (s : State) (p : Port) (c : Byte) (b : BridgeId) :
    (s.beginFlight p c b).resetBySupply = s.resetBySupply := rfl
@[simp] theorem State.beginFlight_consoles (s : State) (p : Port) (c : Byte) (b : BridgeId) :
    (s.beginFlight p c b).consoles = s.consoles.set p { s.console p with inFlight := some ⟨c, b⟩, busy := true } := rfl
@[simp] theorem State.beginFlight_bridges (s : State) (p : Port) (c : Byte) (b : BridgeId) :
    (s.beginFlight p c b).bridges = s.bridges := rfl
@[simp] theorem State.beginFlight_tickets (s : State) (p : Port) (c : Byte) (b : BridgeId) :
    (s.beginFlight p c b).tickets = s.tickets := rfl
@[simp] theorem State.beginFlight_ticketCounter (s : State) (p : Port) (c : Byte) (b : BridgeId) :
    (s.beginFlight p c b).ticketCounter = s.ticketCounter := rfl
@[simp] theorem State.beginFlight_grades (s : State) (p : Port) (c : Byte) (b : BridgeId) :
    (s.beginFlight p c b).grades = s.grades := rfl
@[simp] theorem State.beginFlight_tares (s : State) (p : Port) (c : Byte) (b : BridgeId) :
    (s.beginFlight p c b).tares = s.tares := rfl
@[simp] theorem State.beginFlight_tareValidity (s : State) (p : Port) (c : Byte) (b : BridgeId) :
    (s.beginFlight p c b).tareValidity = s.tareValidity := rfl
@[simp] theorem State.beginFlight_tills (s : State) (p : Port) (c : Byte) (b : BridgeId) :
    (s.beginFlight p c b).tills = s.tills := rfl
@[simp] theorem State.beginFlight_sellers (s : State) (p : Port) (c : Byte) (b : BridgeId) :
    (s.beginFlight p c b).sellers = s.sellers := rfl
@[simp] theorem State.beginFlight_limits (s : State) (p : Port) (c : Byte) (b : BridgeId) :
    (s.beginFlight p c b).limits = s.limits := rfl
@[simp] theorem State.beginFlight_header (s : State) (p : Port) (c : Byte) (b : BridgeId) :
    (s.beginFlight p c b).header = s.header := rfl
@[simp] theorem State.beginFlight_printers (s : State) (p : Port) (c : Byte) (b : BridgeId) :
    (s.beginFlight p c b).printers = s.printers := rfl
@[simp] theorem State.beginFlight_journal (s : State) (p : Port) (c : Byte) (b : BridgeId) :
    (s.beginFlight p c b).journal = s.journal := rfl
@[simp] theorem State.beginFlight_serialCounter (s : State) (p : Port) (c : Byte) (b : BridgeId) :
    (s.beginFlight p c b).serialCounter = s.serialCounter := rfl
@[simp] theorem State.beginFlight_openSerials (s : State) (p : Port) (c : Byte) (b : BridgeId) :
    (s.beginFlight p c b).openSerials = s.openSerials := rfl
@[simp] theorem State.beginFlight_day (s : State) (p : Port) (c : Byte) (b : BridgeId) :
    (s.beginFlight p c b).day = s.day := rfl
@[simp] theorem State.beginFlight_grand (s : State) (p : Port) (c : Byte) (b : BridgeId) :
    (s.beginFlight p c b).grand = s.grand := rfl
@[simp] theorem State.beginFlight_clock (s : State) (p : Port) (c : Byte) (b : BridgeId) :
    (s.beginFlight p c b).clock = s.clock := rfl
@[simp] theorem State.beginFlight_pending (s : State) (p : Port) (c : Byte) (b : BridgeId) :
    (s.beginFlight p c b).pending = s.pending := rfl
@[simp] theorem State.beginFlight_inReset (s : State) (p : Port) (c : Byte) (b : BridgeId) : (s.beginFlight p c b).inReset = s.inReset := rfl
@[simp] theorem State.beginFlight_stamp (s : State) (p : Port) (c : Byte) (b : BridgeId) : (s.beginFlight p c b).stamp = s.stamp := rfl
@[simp] theorem State.beginFlight_today (s : State) (p : Port) (c : Byte) (b : BridgeId) : (s.beginFlight p c b).today = s.today := rfl
@[simp] theorem State.beginFlight_bridge (s : State) (p : Port) (c : Byte) (b : BridgeId) (k : BridgeId) :
    (s.beginFlight p c b).bridge k = s.bridge k := rfl
@[simp] theorem State.beginFlight_printer (s : State) (p : Port) (c : Byte) (b : BridgeId) (k : Port) :
    (s.beginFlight p c b).printer k = s.printer k := rfl
@[simp] theorem State.beginFlight_till (s : State) (p : Port) (c : Byte) (b : BridgeId) (k : Port) :
    (s.beginFlight p c b).till k = s.till k := rfl
@[simp] theorem State.beginFlight_findTicket (s : State) (p : Port) (c : Byte) (b : BridgeId) (n : Nat) :
    (s.beginFlight p c b).findTicket n = s.findTicket n := rfl

/-! ### `idleReceiver` -/

@[simp] theorem State.idleReceiver_resetByPin (s : State) (p : Port) :
    (s.idleReceiver p).resetByPin = s.resetByPin := rfl
@[simp] theorem State.idleReceiver_resetBySupply (s : State) (p : Port) :
    (s.idleReceiver p).resetBySupply = s.resetBySupply := rfl
@[simp] theorem State.idleReceiver_consoles (s : State) (p : Port) :
    (s.idleReceiver p).consoles = s.consoles.set p { s.console p with rx := .idle, interByteTimer := false } := rfl
@[simp] theorem State.idleReceiver_bridges (s : State) (p : Port) :
    (s.idleReceiver p).bridges = s.bridges := rfl
@[simp] theorem State.idleReceiver_tickets (s : State) (p : Port) :
    (s.idleReceiver p).tickets = s.tickets := rfl
@[simp] theorem State.idleReceiver_ticketCounter (s : State) (p : Port) :
    (s.idleReceiver p).ticketCounter = s.ticketCounter := rfl
@[simp] theorem State.idleReceiver_grades (s : State) (p : Port) :
    (s.idleReceiver p).grades = s.grades := rfl
@[simp] theorem State.idleReceiver_tares (s : State) (p : Port) :
    (s.idleReceiver p).tares = s.tares := rfl
@[simp] theorem State.idleReceiver_tareValidity (s : State) (p : Port) :
    (s.idleReceiver p).tareValidity = s.tareValidity := rfl
@[simp] theorem State.idleReceiver_tills (s : State) (p : Port) :
    (s.idleReceiver p).tills = s.tills := rfl
@[simp] theorem State.idleReceiver_sellers (s : State) (p : Port) :
    (s.idleReceiver p).sellers = s.sellers := rfl
@[simp] theorem State.idleReceiver_limits (s : State) (p : Port) :
    (s.idleReceiver p).limits = s.limits := rfl
@[simp] theorem State.idleReceiver_header (s : State) (p : Port) :
    (s.idleReceiver p).header = s.header := rfl
@[simp] theorem State.idleReceiver_printers (s : State) (p : Port) :
    (s.idleReceiver p).printers = s.printers := rfl
@[simp] theorem State.idleReceiver_journal (s : State) (p : Port) :
    (s.idleReceiver p).journal = s.journal := rfl
@[simp] theorem State.idleReceiver_serialCounter (s : State) (p : Port) :
    (s.idleReceiver p).serialCounter = s.serialCounter := rfl
@[simp] theorem State.idleReceiver_openSerials (s : State) (p : Port) :
    (s.idleReceiver p).openSerials = s.openSerials := rfl
@[simp] theorem State.idleReceiver_day (s : State) (p : Port) :
    (s.idleReceiver p).day = s.day := rfl
@[simp] theorem State.idleReceiver_grand (s : State) (p : Port) :
    (s.idleReceiver p).grand = s.grand := rfl
@[simp] theorem State.idleReceiver_clock (s : State) (p : Port) :
    (s.idleReceiver p).clock = s.clock := rfl
@[simp] theorem State.idleReceiver_pending (s : State) (p : Port) :
    (s.idleReceiver p).pending = s.pending := rfl
@[simp] theorem State.idleReceiver_inReset (s : State) (p : Port) : (s.idleReceiver p).inReset = s.inReset := rfl
@[simp] theorem State.idleReceiver_stamp (s : State) (p : Port) : (s.idleReceiver p).stamp = s.stamp := rfl
@[simp] theorem State.idleReceiver_today (s : State) (p : Port) : (s.idleReceiver p).today = s.today := rfl
@[simp] theorem State.idleReceiver_bridge (s : State) (p : Port) (k : BridgeId) :
    (s.idleReceiver p).bridge k = s.bridge k := rfl
@[simp] theorem State.idleReceiver_printer (s : State) (p : Port) (k : Port) :
    (s.idleReceiver p).printer k = s.printer k := rfl
@[simp] theorem State.idleReceiver_till (s : State) (p : Port) (k : Port) :
    (s.idleReceiver p).till k = s.till k := rfl
@[simp] theorem State.idleReceiver_findTicket (s : State) (p : Port) (n : Nat) :
    (s.idleReceiver p).findTicket n = s.findTicket n := rfl

/-! ### `enqueue` -/

@[simp] theorem State.enqueue_resetByPin (s : State) (p : Port) (x : Job) :
    (s.enqueue p x).resetByPin = s.resetByPin := rfl
@[simp] theorem State.enqueue_resetBySupply (s : State) (p : Port) (x : Job) :
    (s.enqueue p x).resetBySupply = s.resetBySupply := rfl
@[simp] theorem State.enqueue_consoles (s : State) (p : Port) (x : Job) :
    (s.enqueue p x).consoles = s.consoles := rfl
@[simp] theorem State.enqueue_bridges (s : State) (p : Port) (x : Job) :
    (s.enqueue p x).bridges = s.bridges := rfl
@[simp] theorem State.enqueue_tickets (s : State) (p : Port) (x : Job) :
    (s.enqueue p x).tickets = s.tickets := rfl
@[simp] theorem State.enqueue_ticketCounter (s : State) (p : Port) (x : Job) :
    (s.enqueue p x).ticketCounter = s.ticketCounter := rfl
@[simp] theorem State.enqueue_grades (s : State) (p : Port) (x : Job) :
    (s.enqueue p x).grades = s.grades := rfl
@[simp] theorem State.enqueue_tares (s : State) (p : Port) (x : Job) :
    (s.enqueue p x).tares = s.tares := rfl
@[simp] theorem State.enqueue_tareValidity (s : State) (p : Port) (x : Job) :
    (s.enqueue p x).tareValidity = s.tareValidity := rfl
@[simp] theorem State.enqueue_tills (s : State) (p : Port) (x : Job) :
    (s.enqueue p x).tills = s.tills := rfl
@[simp] theorem State.enqueue_sellers (s : State) (p : Port) (x : Job) :
    (s.enqueue p x).sellers = s.sellers := rfl
@[simp] theorem State.enqueue_limits (s : State) (p : Port) (x : Job) :
    (s.enqueue p x).limits = s.limits := rfl
@[simp] theorem State.enqueue_header (s : State) (p : Port) (x : Job) :
    (s.enqueue p x).header = s.header := rfl
@[simp] theorem State.enqueue_printers (s : State) (p : Port) (x : Job) :
    (s.enqueue p x).printers = s.printers.set p { s.printer p with queue := (s.printer p).queue ++ [x] } := rfl
@[simp] theorem State.enqueue_journal (s : State) (p : Port) (x : Job) :
    (s.enqueue p x).journal = s.journal := rfl
@[simp] theorem State.enqueue_serialCounter (s : State) (p : Port) (x : Job) :
    (s.enqueue p x).serialCounter = s.serialCounter := rfl
@[simp] theorem State.enqueue_openSerials (s : State) (p : Port) (x : Job) :
    (s.enqueue p x).openSerials = s.openSerials := rfl
@[simp] theorem State.enqueue_day (s : State) (p : Port) (x : Job) :
    (s.enqueue p x).day = s.day := rfl
@[simp] theorem State.enqueue_grand (s : State) (p : Port) (x : Job) :
    (s.enqueue p x).grand = s.grand := rfl
@[simp] theorem State.enqueue_clock (s : State) (p : Port) (x : Job) :
    (s.enqueue p x).clock = s.clock := rfl
@[simp] theorem State.enqueue_pending (s : State) (p : Port) (x : Job) :
    (s.enqueue p x).pending = s.pending := rfl
@[simp] theorem State.enqueue_inReset (s : State) (p : Port) (x : Job) : (s.enqueue p x).inReset = s.inReset := rfl
@[simp] theorem State.enqueue_stamp (s : State) (p : Port) (x : Job) : (s.enqueue p x).stamp = s.stamp := rfl
@[simp] theorem State.enqueue_today (s : State) (p : Port) (x : Job) : (s.enqueue p x).today = s.today := rfl
@[simp] theorem State.enqueue_console (s : State) (p : Port) (x : Job) (k : Port) :
    (s.enqueue p x).console k = s.console k := rfl
@[simp] theorem State.enqueue_bridge (s : State) (p : Port) (x : Job) (k : BridgeId) :
    (s.enqueue p x).bridge k = s.bridge k := rfl
@[simp] theorem State.enqueue_till (s : State) (p : Port) (x : Job) (k : Port) :
    (s.enqueue p x).till k = s.till k := rfl
@[simp] theorem State.enqueue_findTicket (s : State) (p : Port) (x : Job) (n : Nat) :
    (s.enqueue p x).findTicket n = s.findTicket n := rfl

/-! ### `startWeighing` -/

@[simp] theorem State.startWeighing_resetByPin (s : State) (b : BridgeId) (p : Port) (x : WeighTask) :
    (s.startWeighing b p x).resetByPin = s.resetByPin := rfl
@[simp] theorem State.startWeighing_resetBySupply (s : State) (b : BridgeId) (p : Port) (x : WeighTask) :
    (s.startWeighing b p x).resetBySupply = s.resetBySupply := rfl
@[simp] theorem State.startWeighing_consoles (s : State) (b : BridgeId) (p : Port) (x : WeighTask) :
    (s.startWeighing b p x).consoles = s.consoles := rfl
@[simp] theorem State.startWeighing_bridges (s : State) (b : BridgeId) (p : Port) (x : WeighTask) :
    (s.startWeighing b p x).bridges = s.bridges.set b { s.bridge b with weighing := some ⟨p, x, (s.bridge b).config.motionTimeout⟩ } := rfl
@[simp] theorem State.startWeighing_tickets (s : State) (b : BridgeId) (p : Port) (x : WeighTask) :
    (s.startWeighing b p x).tickets = s.tickets := rfl
@[simp] theorem State.startWeighing_ticketCounter (s : State) (b : BridgeId) (p : Port) (x : WeighTask) :
    (s.startWeighing b p x).ticketCounter = s.ticketCounter := rfl
@[simp] theorem State.startWeighing_grades (s : State) (b : BridgeId) (p : Port) (x : WeighTask) :
    (s.startWeighing b p x).grades = s.grades := rfl
@[simp] theorem State.startWeighing_tares (s : State) (b : BridgeId) (p : Port) (x : WeighTask) :
    (s.startWeighing b p x).tares = s.tares := rfl
@[simp] theorem State.startWeighing_tareValidity (s : State) (b : BridgeId) (p : Port) (x : WeighTask) :
    (s.startWeighing b p x).tareValidity = s.tareValidity := rfl
@[simp] theorem State.startWeighing_tills (s : State) (b : BridgeId) (p : Port) (x : WeighTask) :
    (s.startWeighing b p x).tills = s.tills := rfl
@[simp] theorem State.startWeighing_sellers (s : State) (b : BridgeId) (p : Port) (x : WeighTask) :
    (s.startWeighing b p x).sellers = s.sellers := rfl
@[simp] theorem State.startWeighing_limits (s : State) (b : BridgeId) (p : Port) (x : WeighTask) :
    (s.startWeighing b p x).limits = s.limits := rfl
@[simp] theorem State.startWeighing_header (s : State) (b : BridgeId) (p : Port) (x : WeighTask) :
    (s.startWeighing b p x).header = s.header := rfl
@[simp] theorem State.startWeighing_printers (s : State) (b : BridgeId) (p : Port) (x : WeighTask) :
    (s.startWeighing b p x).printers = s.printers := rfl
@[simp] theorem State.startWeighing_journal (s : State) (b : BridgeId) (p : Port) (x : WeighTask) :
    (s.startWeighing b p x).journal = s.journal := rfl
@[simp] theorem State.startWeighing_serialCounter (s : State) (b : BridgeId) (p : Port) (x : WeighTask) :
    (s.startWeighing b p x).serialCounter = s.serialCounter := rfl
@[simp] theorem State.startWeighing_openSerials (s : State) (b : BridgeId) (p : Port) (x : WeighTask) :
    (s.startWeighing b p x).openSerials = s.openSerials := rfl
@[simp] theorem State.startWeighing_day (s : State) (b : BridgeId) (p : Port) (x : WeighTask) :
    (s.startWeighing b p x).day = s.day := rfl
@[simp] theorem State.startWeighing_grand (s : State) (b : BridgeId) (p : Port) (x : WeighTask) :
    (s.startWeighing b p x).grand = s.grand := rfl
@[simp] theorem State.startWeighing_clock (s : State) (b : BridgeId) (p : Port) (x : WeighTask) :
    (s.startWeighing b p x).clock = s.clock := rfl
@[simp] theorem State.startWeighing_pending (s : State) (b : BridgeId) (p : Port) (x : WeighTask) :
    (s.startWeighing b p x).pending = s.pending := rfl
@[simp] theorem State.startWeighing_inReset (s : State) (b : BridgeId) (p : Port) (x : WeighTask) : (s.startWeighing b p x).inReset = s.inReset := rfl
@[simp] theorem State.startWeighing_stamp (s : State) (b : BridgeId) (p : Port) (x : WeighTask) : (s.startWeighing b p x).stamp = s.stamp := rfl
@[simp] theorem State.startWeighing_today (s : State) (b : BridgeId) (p : Port) (x : WeighTask) : (s.startWeighing b p x).today = s.today := rfl
@[simp] theorem State.startWeighing_console (s : State) (b : BridgeId) (p : Port) (x : WeighTask) (k : Port) :
    (s.startWeighing b p x).console k = s.console k := rfl
@[simp] theorem State.startWeighing_printer (s : State) (b : BridgeId) (p : Port) (x : WeighTask) (k : Port) :
    (s.startWeighing b p x).printer k = s.printer k := rfl
@[simp] theorem State.startWeighing_till (s : State) (b : BridgeId) (p : Port) (x : WeighTask) (k : Port) :
    (s.startWeighing b p x).till k = s.till k := rfl
@[simp] theorem State.startWeighing_findTicket (s : State) (b : BridgeId) (p : Port) (x : WeighTask) (n : Nat) :
    (s.startWeighing b p x).findTicket n = s.findTicket n := rfl

/-! ### What an accessor reads after its own update -/

@[simp] theorem State.console_setConsole_self (s : State) (p : Port) (c : Console) : (s.setConsole p c).console p = c :=
  Four.get_set_self _ _ _

theorem State.console_setConsole (s : State) (p q : Port) (c : Console) :
    (s.setConsole p c).console q = if q = p then c else s.console q := Four.get_set _ _ _ _

@[simp] theorem State.bridge_setBridge_self (s : State) (b : BridgeId) (x : Bridge) : (s.setBridge b x).bridge b = x :=
  Pair.get_set_self _ _ _

theorem State.bridge_setBridge (s : State) (b c : BridgeId) (x : Bridge) :
    (s.setBridge b x).bridge c = if c = b then x else s.bridge c := Pair.get_set _ _ _ _

@[simp] theorem State.printer_setPrinter_self (s : State) (p : Port) (x : Printer) : (s.setPrinter p x).printer p = x :=
  Four.get_set_self _ _ _

theorem State.printer_setPrinter (s : State) (p q : Port) (x : Printer) :
    (s.setPrinter p x).printer q = if q = p then x else s.printer q := Four.get_set _ _ _ _

@[simp] theorem State.till_setTill_self (s : State) (p : Port) (t : Till) : (s.setTill p t).till p = t :=
  Four.get_set_self _ _ _

theorem State.till_setTill (s : State) (p q : Port) (t : Till) :
    (s.setTill p t).till q = if q = p then t else s.till q := Four.get_set _ _ _ _

@[simp] theorem State.setConsole_setConsole (s : State) (p : Port) (c d : Console) :
    (s.setConsole p c).setConsole p d = s.setConsole p d := by simp [State.setConsole]

@[simp] theorem State.setBridge_setBridge (s : State) (b : BridgeId) (x y : Bridge) :
    (s.setBridge b x).setBridge b y = s.setBridge b y := by simp [State.setBridge]

@[simp] theorem State.setPrinter_setPrinter (s : State) (p : Port) (x y : Printer) :
    (s.setPrinter p x).setPrinter p y = s.setPrinter p y := by simp [State.setPrinter]

@[simp] theorem State.setTill_setTill (s : State) (p : Port) (x y : Till) :
    (s.setTill p x).setTill p y = s.setTill p y := by simp [State.setTill]

@[simp] theorem State.setConsole_console (s : State) (p : Port) : s.setConsole p (s.console p) = s := by
  simp [State.setConsole, State.console]

@[simp] theorem State.setBridge_bridge (s : State) (b : BridgeId) : s.setBridge b (s.bridge b) = s := by
  simp [State.setBridge, State.bridge]

@[simp] theorem State.setPrinter_printer (s : State) (p : Port) : s.setPrinter p (s.printer p) = s := by
  simp [State.setPrinter, State.printer]

/-- Updates of different homes commute. -/
theorem State.setConsole_setBridge (s : State) (p : Port) (c : Console) (b : BridgeId) (x : Bridge) :
    (s.setConsole p c).setBridge b x = (s.setBridge b x).setConsole p c := rfl
theorem State.setConsole_setPrinter (s : State) (p q : Port) (c : Console) (x : Printer) :
    (s.setConsole p c).setPrinter q x = (s.setPrinter q x).setConsole p c := rfl
theorem State.setConsole_putTicket (s : State) (p : Port) (c : Console) (i : Nat) (t : Ticket) :
    (s.setConsole p c).putTicket i t = (s.putTicket i t).setConsole p c := rfl
theorem State.setBridge_putTicket (s : State) (b : BridgeId) (x : Bridge) (i : Nat) (t : Ticket) :
    (s.setBridge b x).putTicket i t = (s.putTicket i t).setBridge b x := rfl

/-! ### The console answer queue -/

@[simp] theorem Console.push_role (c : Console) (a : Answer) : (c.push a).role = c.role := rfl
@[simp] theorem Console.push_rx (c : Console) (a : Answer) : (c.push a).rx = c.rx := rfl
@[simp] theorem Console.push_interByteTimer (c : Console) (a : Answer) : (c.push a).interByteTimer = c.interByteTimer := rfl
@[simp] theorem Console.push_inFlight (c : Console) (a : Answer) : (c.push a).inFlight = c.inFlight := rfl
@[simp] theorem Console.push_busy (c : Console) (a : Answer) : (c.push a).busy = c.busy := rfl
@[simp] theorem Console.push_answers (c : Console) (a : Answer) : (c.push a).answers = c.answers ++ [a] := rfl
@[simp] theorem Console.push_tx (c : Console) (a : Answer) : (c.push a).tx = if c.tx = .idle then .sending 0 else c.tx := rfl

/-! ### The printer -/

@[simp] theorem Printer.send_queue (x : Printer) (m : PrinterMessage) : (x.send m).queue = x.queue := rfl
@[simp] theorem Printer.send_state (x : Printer) (m : PrinterMessage) : (x.send m).state = x.state := rfl
@[simp] theorem Printer.send_fault (x : Printer) (m : PrinterMessage) : (x.send m).fault = x.fault := rfl
@[simp] theorem Printer.send_rendered (x : Printer) (m : PrinterMessage) : (x.send m).rendered = x.rendered := rfl
@[simp] theorem Printer.send_sent (x : Printer) (m : PrinterMessage) : (x.send m).sent = x.sent ++ [m] := rfl
@[simp] theorem Printer.send_lineTimer (x : Printer) (m : PrinterMessage) : (x.send m).lineTimer = some x.timeout := rfl
@[simp] theorem Printer.send_present (x : Printer) (m : PrinterMessage) : (x.send m).present = x.present := rfl
@[simp] theorem Printer.send_width (x : Printer) (m : PrinterMessage) : (x.send m).width = x.width := rfl
@[simp] theorem Printer.send_timeout (x : Printer) (m : PrinterMessage) : (x.send m).timeout = x.timeout := rfl

end Machine

end Sys2Proof
end

