-- ==== Sys2Proof/Laws/Ops.lean ====
section
/-! SUPPORT. For each shared operation, what it can do, said once: frames and requests, tables of optional entries, numbers,
marks and weighings, print queues, and the journal. -/

namespace Sys2Proof.Machine

/-! ### Frames and requests (10 R186 to R192) -/

/-- 10 R186: a frame is taken where the port hears it and a place is free, discarded where none is, and not heard on an OFF
port or in reset. -/
theorem takeFrame_eq (p : Port) (s : State) (act : State → State) :
    takeFrame p s act =
      if s.hears p = true then
        if (s.console p).spoken < 4 then act (s.idleReceiver p) else s.idleReceiver p
      else s := rfl

theorem State.hears_iff (s : State) (p : Port) : s.hears p = true ↔ s.inReset = false ∧ (s.console p).role ≠ .off := by
  simp [State.hears, bne_iff_ne]

/-- A law that idling the receiver keeps, and that `act` keeps, holds after a frame. -/
theorem takeFrame_keeps {P : State → Prop} {p : Port} {s : State} {act : State → State} (hs : P s)
    (idle : s.hears p = true → P (s.idleReceiver p))
    (acted : s.hears p = true → (s.console p).spoken < 4 → P (act (s.idleReceiver p))) : P (takeFrame p s act) := by
  unfold takeFrame
  split
  · split
    · exact acted ‹_› ‹_›
    · exact idle ‹_›
  · exact hs

@[simp] theorem State.idleReceiver_console_self (s : State) (p : Port) :
    (s.idleReceiver p).console p = (s.console p).heard := by simp [State.idleReceiver, Console.heard]

theorem State.answer_idleReceiver (s : State) (p : Port) (cls : Byte) (r : ResultCode) (fields : List Byte) :
    (s.idleReceiver p).answer p ⟨cls, r, fields⟩ = s.answered p cls r fields := by
  unfold State.answer
  rw [State.idleReceiver_console_self]
  unfold State.idleReceiver
  rw [State.setConsole_setConsole]
  rfl

/-- 10 R187 steps 3 to 6: what an examined request can end in. -/
theorem examine_cases {α : Type} (cls : Byte) (permitted : Role → Bool) (decode : List Byte → Option α)
    (act : Port → α → State → Reply) (p : Port) (fields : List Byte) (s : State) :
    (∃ code, examine cls permitted decode act p fields s = s.answer p ⟨cls, code, []⟩)
    ∨ ∃ r, decode fields = some r ∧ permitted (s.console p).role = true
        ∧ ((s.console p).inFlight = none ∨ cls = abortClass)
        ∧ examine cls permitted decode act p fields s = (act p r s).apply cls p s := by
  unfold examine
  split
  · exact .inl ⟨_, rfl⟩
  · split
    · exact .inl ⟨_, rfl⟩
    · split
      · exact .inl ⟨_, rfl⟩
      · rename_i hb hp _ r hd
        refine .inr ⟨r, hd, by simpa using hp, ?_, rfl⟩
        simp only [Bool.and_eq_true, not_and, bne_iff_ne, ne_eq, not_not] at hb
        cases hf : (s.console p).inFlight with
        | none => exact .inl rfl
        | some f => exact .inr (hb (by simp [hf]))

/-- A request taken by a port that is ready, permitted and decoded is handed to its block. -/
theorem takeRequest_handed {α : Type} {cls : Byte} {permitted : Role → Bool} {decode : List Byte → Option α}
    {act : Port → α → State → Reply} {p : Port} {fields : List Byte} {s : State} {r : α}
    (hears : s.hears p = true) (room : (s.console p).spoken < 4)
    (flight : (s.console p).inFlight = none ∨ cls = abortClass) (role : permitted (s.console p).role = true)
    (decoded : decode fields = some r) :
    takeRequest cls permitted decode act p fields s
      = .next ((act p r (s.idleReceiver p)).apply cls p (s.idleReceiver p)) := by
  have hb : ((s.console p).inFlight.isSome && cls != abortClass) = false := by
    rcases flight with h | h <;> simp [h]
  have hr : ((s.idleReceiver p).console p).role = (s.console p).role := by rw [State.idleReceiver_console_self]; rfl
  have hf : ((s.idleReceiver p).console p).inFlight = (s.console p).inFlight := by
    rw [State.idleReceiver_console_self]; rfl
  unfold takeRequest takeFrame examine
  rw [if_pos hears, if_pos room, hr, hf, hb, role, decoded]
  rfl

/-- The same for a port that is `ReadyAs` a role that may send the request. -/
theorem takeRequest_ready {α : Type} {cls : Byte} {permitted : Role → Bool} {decode : List Byte → Option α}
    {act : Port → α → State → Reply} {p : Port} {fields : List Byte} {s : State} {role : Role} {r : α}
    (ready : s.ReadyAs p role) (allowed : permitted role = true) (decoded : decode fields = some r) :
    takeRequest cls permitted decode act p fields s
      = .next ((act p r (s.idleReceiver p)).apply cls p (s.idleReceiver p)) := by
  obtain ⟨hr, hrole, hne, hf, hroom⟩ := ready
  refine takeRequest_handed ?_ ?_ (.inl hf) (by rw [hrole]; exact allowed) decoded
  · rw [State.hears_iff]; exact ⟨hr, by rw [hrole]; exact hne⟩
  · simpa [Console.spoken, hf] using hroom

/-- A law kept by idling the receiver, by an answer where there is room, and by the block's reply, is kept by the
request. -/
theorem takeRequest_keeps {α : Type} {P : State → Prop} {cls : Byte} {permitted : Role → Bool}
    {decode : List Byte → Option α} {act : Port → α → State → Reply} {p : Port} {fields : List Byte} {s t : State}
    (taken : takeRequest cls permitted decode act p fields s = .next t) (hs : P s) (idle : P (s.idleReceiver p))
    (answered : ∀ code, (s.console p).spoken < 4 → P ((s.idleReceiver p).answer p ⟨cls, code, []⟩))
    (replied : ∀ r, decode fields = some r → s.hears p = true → (s.console p).spoken < 4 →
      permitted (s.console p).role = true → ((s.console p).inFlight = none ∨ cls = abortClass) →
      P ((act p r (s.idleReceiver p)).apply cls p (s.idleReceiver p))) : P t := by
  obtain rfl : takeFrame p s (examine cls permitted decode act p fields) = t := by simpa [takeRequest] using taken
  refine takeFrame_keeps hs (fun _ => idle) fun hh hr => ?_
  rcases examine_cases cls permitted decode act p fields (s.idleReceiver p) with ⟨code, h⟩ | ⟨r, hd, hp, hf, h⟩
  · rw [h]; exact answered code hr
  · rw [h]
    exact replied r hd hh hr (by simpa [Console.heard] using hp) (by simpa [Console.heard] using hf)

@[simp] theorem Reply.apply_refuse (code : ResultCode) (cls : Byte) (p : Port) (s : State) :
    (Reply.refuse code).apply cls p s = s.answer p ⟨cls, code, []⟩ := rfl
@[simp] theorem Reply.apply_done (fields : List Byte) (t : State) (cls : Byte) (p : Port) (s : State) :
    (Reply.done fields t).apply cls p s = t.answer p ⟨cls, .done, fields⟩ := rfl
@[simp] theorem Reply.apply_flight (b : BridgeId) (t : State) (cls : Byte) (p : Port) (s : State) :
    (Reply.flight b t).apply cls p s = t.beginFlight p cls b := rfl

/-- 10 R190: the end of a flight: nothing without one, else the answer of its class, with BUSY low. -/
theorem State.endFlight_eq (s : State) (p : Port) (r : ResultCode) (fields : List Byte) :
    s.endFlight p r fields = match (s.console p).inFlight with
      | none => s
      | some f => s.landed p f.cls r fields := by
  unfold State.endFlight
  cases (s.console p).inFlight <;> rfl

/-- 10 R187: the first failure of an ordered table of checks. -/
theorem firstFailure_none {checks : List (Bool × ResultCode)} : firstFailure checks = none ↔ ∀ c ∈ checks, c.1 = false := by
  induction checks with
  | nil => simp [firstFailure]
  | cons c rest ih =>
    obtain ⟨fails, code⟩ := c
    cases fails <;> simp [firstFailure, ih]

@[simp] theorem firstFailure_nil : firstFailure [] = none := rfl
@[simp] theorem firstFailure_cons (fails : Bool) (code : ResultCode) (rest : List (Bool × ResultCode)) :
    firstFailure ((fails, code) :: rest) = if fails = true then some code else firstFailure rest := rfl

/-! ### Tables of optional entries -/

theorem mem_entries {α : Type} {xs : List (Option α)} {a : α} : a ∈ entries xs ↔ some a ∈ xs := by
  simp [entries, List.mem_filterMap]

/-- A found entry stands at its position, satisfies the test, and no entry before it does. -/
theorem findEntry_some {α : Type} {q : α → Bool} {xs : List (Option α)} {i : Nat} {a : α}
    (h : findEntry q xs = some (i, a)) :
    xs[i]? = some (some a) ∧ q a = true ∧ ∀ j < i, ∀ b, xs[j]? = some (some b) → q b = false := by
  induction xs generalizing i with
  | nil => simp [findEntry] at h
  | cons x rest ih =>
    cases x with
    | none =>
      simp only [findEntry, Option.map_eq_some_iff, Prod.mk.injEq, Prod.exists] at h
      obtain ⟨k, b, hk, rfl, rfl⟩ := h
      obtain ⟨h1, h2, h3⟩ := ih hk
      refine ⟨by simpa using h1, h2, fun j hj b hb => ?_⟩
      cases j with
      | zero => simp at hb
      | succ j => exact h3 j (by omega) b (by simpa using hb)
    | some c =>
      simp only [findEntry] at h
      split at h
      · simp only [Option.some.injEq, Prod.mk.injEq] at h
        obtain ⟨rfl, rfl⟩ := h
        exact ⟨rfl, ‹_›, fun j hj => absurd hj (by omega)⟩
      · simp only [Option.map_eq_some_iff, Prod.mk.injEq, Prod.exists] at h
        obtain ⟨k, b, hk, rfl, rfl⟩ := h
        obtain ⟨h1, h2, h3⟩ := ih hk
        refine ⟨by simpa using h1, h2, fun j hj b hb => ?_⟩
        cases j with
        | zero => simp only [List.getElem?_cons_zero, Option.some.injEq] at hb; subst hb; simpa using ‹¬ q c = true›
        | succ j => exact h3 j (by omega) b (by simpa using hb)

/-- Nothing is found exactly when no entry satisfies the test. -/
theorem findEntry_none {α : Type} {q : α → Bool} {xs : List (Option α)} :
    findEntry q xs = none ↔ ∀ a ∈ entries xs, q a = false := by
  induction xs with
  | nil => simp [findEntry, entries]
  | cons x rest ih =>
    cases x with
    | none => simpa [findEntry, entries] using ih
    | some c =>
      by_cases hc : q c = true
      · simp [findEntry, entries, hc]
      · have he : findEntry q (some c :: rest) = (findEntry q rest).map fun x => (x.1 + 1, x.2) := if_neg hc
        rw [he, Option.map_eq_none_iff, ih]
        simp [entries, hc]

/-- A position found is empty, and no position before it is. -/
theorem firstEmpty_some {α : Type} {xs : List (Option α)} {i : Nat} (h : firstEmpty xs = some i) :
    xs[i]? = some none ∧ ∀ j < i, xs[j]? ≠ some none := by
  induction xs generalizing i with
  | nil => simp [firstEmpty] at h
  | cons x rest ih =>
    cases x with
    | none =>
      simp only [firstEmpty, Option.some.injEq] at h
      subst h
      exact ⟨rfl, fun j hj => absurd hj (by omega)⟩
    | some c =>
      simp only [firstEmpty, Option.map_eq_some_iff] at h
      obtain ⟨k, hk, rfl⟩ := h
      obtain ⟨h1, h2⟩ := ih hk
      refine ⟨by simpa using h1, fun j hj => ?_⟩
      cases j with
      | zero => simp
      | succ j => simpa using h2 j (by omega)

/-- No position is found exactly when every one is held. -/
theorem firstEmpty_none {α : Type} {xs : List (Option α)} : firstEmpty xs = none ↔ none ∉ xs := by
  induction xs with
  | nil => simp [firstEmpty]
  | cons x rest ih => cases x <;> simp [firstEmpty, ih]

theorem entries_length_le {α : Type} (xs : List (Option α)) : (entries xs).length ≤ xs.length :=
  List.length_filterMap_le _ _

/-- The entries fill the table exactly when no position is empty. -/
theorem entries_length_eq {α : Type} {xs : List (Option α)} : (entries xs).length = xs.length ↔ none ∉ xs := by
  induction xs with
  | nil => simp [entries]
  | cons x rest ih =>
    have h := entries_length_le rest
    cases x with
    | none =>
      simp only [entries, List.filterMap_cons, id, List.length_cons] at *
      simp; omega
    | some c =>
      simp only [entries, List.filterMap_cons, id, List.length_cons, Nat.add_right_cancel_iff] at *
      simpa using ih

/-- The first position that satisfies a test. -/
theorem firstIndex_some {α : Type} {q : α → Bool} {xs : List α} {i : Nat} (h : firstIndex q xs = some i) :
    (∃ a, xs[i]? = some a ∧ q a = true) ∧ ∀ j < i, ∀ b, xs[j]? = some b → q b = false := by
  induction xs generalizing i with
  | nil => simp [firstIndex] at h
  | cons x rest ih =>
    simp only [firstIndex] at h
    split at h
    · simp only [Option.some.injEq] at h
      subst h
      exact ⟨⟨x, rfl, ‹_›⟩, fun j hj => absurd hj (by omega)⟩
    · simp only [Option.map_eq_some_iff] at h
      obtain ⟨k, hk, rfl⟩ := h
      obtain ⟨⟨a, h1, h2⟩, h3⟩ := ih hk
      refine ⟨⟨a, by simpa using h1, h2⟩, fun j hj b hb => ?_⟩
      cases j with
      | zero => simp only [List.getElem?_cons_zero, Option.some.injEq] at hb; subst hb; simpa using ‹¬ q x = true›
      | succ j => exact h3 j (by omega) b (by simpa using hb)

theorem firstIndex_none {α : Type} {q : α → Bool} {xs : List α} : firstIndex q xs = none ↔ ∀ a ∈ xs, q a = false := by
  induction xs with
  | nil => simp [firstIndex]
  | cons x rest ih =>
    by_cases hx : q x = true
    · simp [firstIndex, hx]
    · simp [firstIndex, hx, ih]

/-! ### Ticket numbers (02 R27) -/

theorem nextNumber_range {n : Nat} (h : 1 ≤ n ∧ n ≤ 999999) : 1 ≤ nextNumber n ∧ nextNumber n ≤ 999999 := by
  unfold nextNumber Config.numberMax; split <;> omega

/-- A number found lies in the range, and is unused unless the search ran out. -/
theorem freeNumber_range {used : Nat → Bool} {fuel n : Nat} (h : 1 ≤ n ∧ n ≤ 999999) :
    1 ≤ freeNumber used fuel n ∧ freeNumber used fuel n ≤ 999999 := by
  induction fuel generalizing n with
  | zero => exact h
  | succ fuel ih =>
    simp only [freeNumber]
    split
    · exact ih (nextNumber_range h)
    · exact h

/-! ### Marks and weighings (01 R17, 02 R34) -/

/-- Clearing a mark changes the ticket of the number, if there is one, and nothing else. -/
theorem State.clearMark_cases (s : State) (n : Nat) :
    (s.findTicket n = none ∧ s.clearMark n = s)
    ∨ ∃ i t, s.findTicket n = some (i, t) ∧ s.clearMark n = s.putTicket i { t with pending := none } := by
  unfold State.clearMark
  cases h : s.findTicket n with
  | none => exact .inl ⟨rfl, rfl⟩
  | some x => exact .inr ⟨x.1, x.2, rfl, rfl⟩

/-- Only the ticket table can change. -/
theorem State.clearTaskMark_frame (s : State) (task : WeighTask) :
    ∃ tickets, s.clearTaskMark task = { s with tickets := tickets } := by
  unfold State.clearTaskMark
  split
  · rename_i n _
    rcases s.clearMark_cases n with ⟨-, h⟩ | ⟨i, t, -, h⟩
    · exact ⟨s.tickets, by rw [h]⟩
    · exact ⟨_, by rw [h]; rfl⟩
  · exact ⟨s.tickets, rfl⟩

theorem State.dropWeighing_eq {s : State} {b : BridgeId} {x : Weighing} (h : (s.bridge b).weighing = some x) :
    s.dropWeighing b = (s.clearTaskMark x.task).setBridge b { s.bridge b with weighing := none } := by
  simp [State.dropWeighing, h]

/-- 01 R17: a pending weighing ended with a code, its request being in flight. -/
theorem State.failWeighing_eq {s : State} {b : BridgeId} {x : Weighing} {f : InFlight} (r : ResultCode)
    (h : (s.bridge b).weighing = some x) (hf : (s.console x.console).inFlight = some f) :
    s.failWeighing b r = ((s.clearTaskMark x.task).setBridge b { s.bridge b with weighing := none }).landed
      x.console f.cls r (Wire.bridge b) := by
  obtain ⟨ts, hts⟩ := s.clearTaskMark_frame x.task
  have hc : ((s.dropWeighing b).console x.console).inFlight = some f := by
    rw [State.dropWeighing_eq h, hts]; exact hf
  simp only [State.failWeighing, h]
  rw [State.endFlight_eq, hc, State.dropWeighing_eq h]

theorem State.failWeighing_none {s : State} {b : BridgeId} (r : ResultCode) (h : (s.bridge b).weighing = none) :
    s.failWeighing b r = s := by
  simp [State.failWeighing, h]

/-! ### Print queues (06 R109) -/

theorem State.queueRefusal_none {s : State} {p : Port} :
    s.queueRefusal p = none ↔ (s.printer p).present = true ∧ (s.printer p).queue.length < 8 := by
  unfold State.queueRefusal Config.queuePlaces
  cases (s.printer p).present <;> simp

/-- 06 R109: an optional job is queued at the tail where there is room, else nothing happens. -/
theorem State.offer_eq (s : State) (p : Port) (job : Job) :
    s.offer p job = if s.room p = true then (s.enqueue p job, some ((s.printer p).queue.length + 1)) else (s, none) := by
  unfold State.offer
  by_cases h : s.room p = true
  · have : s.queueRefusal p = none := by
      rw [State.queueRefusal_none]; simpa [State.room] using h
    simp [this, h, State.queuePosition, State.printer, State.enqueue, State.setPrinter]
  · have : s.queueRefusal p ≠ none := by
      rw [Ne, State.queueRefusal_none]; simpa [State.room] using h
    cases hq : s.queueRefusal p with
    | none => exact absurd hq this
    | some c => simp [h]

/-! ### Journal (08 R150 to R155) -/

theorem journalPush_length (ring : List JournalEntry) (e : JournalEntry) (h : ring.length ≤ 256) :
    (journalPush ring e).length ≤ 256 := by
  unfold journalPush Config.journalEntries
  split <;> simp <;> omega

@[simp] theorem journalUpdate_length (ring : List JournalEntry) (n : Nat) (f : JournalEntry → JournalEntry) :
    (journalUpdate ring n f).length = ring.length := by simp [journalUpdate]

/-- A change that keeps the serial keeps every serial of the ring. -/
theorem journalUpdate_serials (ring : List JournalEntry) (n : Nat) (f : JournalEntry → JournalEntry)
    (h : ∀ e, (f e).serial = e.serial) : (journalUpdate ring n f).map (·.serial) = ring.map (·.serial) := by
  simp only [journalUpdate, List.map_map, List.map_inj_left, Function.comp]
  intro e _
  split <;> simp [h]

/-- An entry in a final outcome is not changed. -/
theorem journalUpdate_final {ring : List JournalEntry} {n : Nat} {f : JournalEntry → JournalEntry} {e : JournalEntry}
    (h : e ∈ ring) (hf : e.outcome ≠ .printing) : e ∈ journalUpdate ring n f := by
  simp only [journalUpdate, List.mem_map]
  exact ⟨e, h, by simp [hf]⟩

theorem nextSerial_range {n : Nat} (h : 1 ≤ n ∧ n ≤ 99999999) : 1 ≤ nextSerial n ∧ nextSerial n ≤ 99999999 := by
  unfold nextSerial Config.serialMax; split <;> omega

/-- Counting an outcome changes the day and the grand totals, and nothing else. -/
theorem State.countOutcome_frame (s : State) (o : JournalOutcome) :
    ∃ day grand, s.countOutcome o = { s with day := day, grand := grand } := by
  cases o <;> exact ⟨_, _, rfl⟩

/-- 08 R153: the end of a receipt changes its entry, the open-serial field of its port and the counters. -/
theorem State.endReceipt_frame (s : State) (p : Port) (n : Nat) (o : JournalOutcome) :
    ∃ day grand, s.endReceipt p n o = { s with
      journal := journalUpdate s.journal n fun e => { e with outcome := o }
      openSerials := s.openSerials.set p none, day := day, grand := grand } := by
  cases o <;> exact ⟨_, _, rfl⟩

/-! ### Counters (05 R99) -/

theorem satAdd_le (a n : Nat) : satAdd a n ≤ 999999999999 := Nat.min_le_right _ _

theorem satAdd_of_le {a n : Nat} (h : a + n ≤ 999999999999) : satAdd a n = a + n := Nat.min_eq_left h

theorem satAdd_mono (a n : Nat) (h : a ≤ 999999999999) : a ≤ satAdd a n := by
  simp only [satAdd, Config.counterMax]; omega

/-! ### The last close of a till (05 R99 to R103) -/

@[simp] theorem countedTill_lastClose (t : Till) (n : Nat) : (countedTill t n).lastClose = some (n, n - t.expected) := rfl

@[simp] theorem forcedTill_lastClose (t : Till) : (forcedTill t).lastClose = none := rfl

@[simp] theorem openedTill_lastClose (float : Nat) (now : Option Stamp) : (openedTill float now).lastClose = none := rfl

end Sys2Proof.Machine
end

