-- ==== Sys2Proof/Laws/PerInstr.lean ====
section
/-! SUPPORT. The class table, command by command (11 R198): a request is the good frame of exactly one class byte, with
its own port and field bytes, and a command that is no request is the good frame of none. -/

namespace Sys2Proof.Laws.ClassTable

open Sys2Proof

/-- 11 R198: the class byte of a request. -/
def classByte : Instr → Option Byte
  | .abort _ _ => some 0x01#8
  | .queryStatus _ _ => some 0x02#8
  | .openTicket _ _ => some 0x10#8
  | .weighDrop _ _ => some 0x11#8
  | .weighTare _ _ => some 0x12#8
  | .storeTare _ _ => some 0x13#8
  | .applyStoredTare _ _ => some 0x14#8
  | .zero _ _ => some 0x15#8
  | .setDeduction _ _ => some 0x16#8
  | .setParty _ _ => some 0x17#8
  | .openTill _ _ => some 0x20#8
  | .loadCash _ _ => some 0x21#8
  | .closeTill _ _ => some 0x22#8
  | .pay _ _ => some 0x23#8
  | .forceCloseTill _ _ => some 0x24#8
  | .setPayoutLimits _ _ => some 0x25#8
  | .setGrade _ _ => some 0x30#8
  | .removeGrade _ _ => some 0x31#8
  | .deleteTare _ _ => some 0x32#8
  | .setTareValidity _ _ => some 0x33#8
  | .setBridge _ _ => some 0x34#8
  | .setHeaderLine _ _ => some 0x35#8
  | .setHeaderCell _ _ => some 0x36#8
  | .setPrinter _ _ => some 0x37#8
  | .setClock _ _ => some 0x38#8
  | .alignMinute _ _ => some 0x39#8
  | .voidTicket _ _ => some 0x3A#8
  | .dayClose _ _ => some 0x3B#8
  | .copy _ _ => some 0x40#8
  | .discardJob _ _ => some 0x41#8
  | .queryTicket _ _ => some 0x50#8
  | .listTickets _ _ => some 0x51#8
  | .queryBridge _ _ => some 0x52#8
  | .queryGrade _ _ => some 0x53#8
  | .queryTare _ _ => some 0x54#8
  | .queryTill _ _ => some 0x55#8
  | .queryPrinter _ _ => some 0x56#8
  | .queryJournal _ _ => some 0x57#8
  | .queryTotals _ _ => some 0x58#8
  | .badFrame _ _ | .badClass _ _ | .interByteTimeout _ | .breakCondition _ | .answerTransmitted _ | .sampleEvent
    _ _ _ | .badSampleFrame _ | .sampleGapTimeout _ | .staleTimerExpiry _ | .beamEvent _ _ _ | .motionDeadline _ |
    .statusReady _ | .statusDone _ | .statusBusy _ | .faultByte _ _ | .lineTimerExpiry _ | .jobStart _ |
    .secondBoundary | .mainReset _ | .mainResetRelease _ | .backupPowerOnReset | .consoleReceivedByte _ _ |
    .indicatorReceivedByte _ _ => none

/-- 11 R198, 10 R187: a request is what the good frame of its class byte runs, and no frame of another class byte, port or
body runs it; a command that is no request is run by no frame of the class table. -/
def Statement (i : Instr) : Prop :=
  match classByte i with
  | some cls => ∃ p fields, i.receivePort = some p ∧ i.requestFields = some fields
      ∧ ∀ other q g, Decode.requestCommand other q g = some i ↔ other = cls ∧ q = p ∧ g = fields
  | none => i.requestFields = none ∧ ∀ cls p fields, Decode.requestCommand cls p fields ≠ some i

/-- Every row of the class table makes a request of its own class byte, port and field bytes. -/
theorem rows_are_requests : ∀ row ∈ Decode.classTable, ∀ (p : Port) (f : List Byte),
    classByte (row.2 p f) = some row.1 ∧ (row.2 p f).receivePort = some p ∧ (row.2 p f).requestFields = some f := by
  simp [Decode.classTable, classByte, Instr.receivePort, Instr.requestFields]

/-- What a frame runs is a request of its own class byte, port and field bytes. -/
theorem requestCommand_some {cls : Byte} {p : Port} {f : List Byte} {i : Instr}
    (h : Decode.requestCommand cls p f = some i) :
    classByte i = some cls ∧ i.receivePort = some p ∧ i.requestFields = some f := by
  unfold Decode.requestCommand at h
  cases hf : Decode.classTable.find? (fun row => row.1 == cls) with
  | none => simp [hf] at h
  | some row =>
    obtain rfl : row.1 = cls := by simpa using List.find?_some hf
    obtain rfl : row.2 p f = i := by simpa [hf] using h
    exact rows_are_requests row (List.mem_of_find?_eq_some hf) p f

/-- A command that the frame of its class byte runs meets the statement. -/
theorem of_request {i : Instr} {cls : Byte} {p : Port} {f : List Byte} (hc : classByte i = some cls)
    (h : Decode.requestCommand cls p f = some i) : Statement i := by
  have hi := requestCommand_some h
  unfold Statement
  rw [hc]
  refine ⟨p, f, hi.2.1, hi.2.2, fun other q g => ⟨fun hg => ?_, fun ⟨h1, h2, h3⟩ => h1 ▸ h2 ▸ h3 ▸ h⟩⟩
  have hj := requestCommand_some hg
  simp_all

/-- A command that is no request meets the statement. -/
theorem of_other {i : Instr} (hc : classByte i = none) (hf : i.requestFields = none) : Statement i := by
  unfold Statement
  rw [hc]
  refine ⟨hf, fun cls p f h => ?_⟩
  have hi := requestCommand_some h
  simp_all

theorem abort (p : Port) (f : List Byte) : Statement (.abort p f) := of_request (cls := 0x01) rfl rfl
theorem queryStatus (p : Port) (f : List Byte) : Statement (.queryStatus p f) := of_request (cls := 0x02) rfl rfl
theorem openTicket (p : Port) (f : List Byte) : Statement (.openTicket p f) := of_request (cls := 0x10) rfl rfl
theorem weighDrop (p : Port) (f : List Byte) : Statement (.weighDrop p f) := of_request (cls := 0x11) rfl rfl
theorem weighTare (p : Port) (f : List Byte) : Statement (.weighTare p f) := of_request (cls := 0x12) rfl rfl
theorem storeTare (p : Port) (f : List Byte) : Statement (.storeTare p f) := of_request (cls := 0x13) rfl rfl
theorem applyStoredTare (p : Port) (f : List Byte) : Statement (.applyStoredTare p f) := of_request (cls := 0x14) rfl rfl
theorem zero (p : Port) (f : List Byte) : Statement (.zero p f) := of_request (cls := 0x15) rfl rfl
theorem setDeduction (p : Port) (f : List Byte) : Statement (.setDeduction p f) := of_request (cls := 0x16) rfl rfl
theorem setParty (p : Port) (f : List Byte) : Statement (.setParty p f) := of_request (cls := 0x17) rfl rfl
theorem openTill (p : Port) (f : List Byte) : Statement (.openTill p f) := of_request (cls := 0x20) rfl rfl
theorem loadCash (p : Port) (f : List Byte) : Statement (.loadCash p f) := of_request (cls := 0x21) rfl rfl
theorem closeTill (p : Port) (f : List Byte) : Statement (.closeTill p f) := of_request (cls := 0x22) rfl rfl
theorem pay (p : Port) (f : List Byte) : Statement (.pay p f) := of_request (cls := 0x23) rfl rfl
theorem forceCloseTill (p : Port) (f : List Byte) : Statement (.forceCloseTill p f) := of_request (cls := 0x24) rfl rfl
theorem setPayoutLimits (p : Port) (f : List Byte) : Statement (.setPayoutLimits p f) := of_request (cls := 0x25) rfl rfl
theorem setGrade (p : Port) (f : List Byte) : Statement (.setGrade p f) := of_request (cls := 0x30) rfl rfl
theorem removeGrade (p : Port) (f : List Byte) : Statement (.removeGrade p f) := of_request (cls := 0x31) rfl rfl
theorem deleteTare (p : Port) (f : List Byte) : Statement (.deleteTare p f) := of_request (cls := 0x32) rfl rfl
theorem setTareValidity (p : Port) (f : List Byte) : Statement (.setTareValidity p f) := of_request (cls := 0x33) rfl rfl
theorem setBridge (p : Port) (f : List Byte) : Statement (.setBridge p f) := of_request (cls := 0x34) rfl rfl
theorem setHeaderLine (p : Port) (f : List Byte) : Statement (.setHeaderLine p f) := of_request (cls := 0x35) rfl rfl
theorem setHeaderCell (p : Port) (f : List Byte) : Statement (.setHeaderCell p f) := of_request (cls := 0x36) rfl rfl
theorem setPrinter (p : Port) (f : List Byte) : Statement (.setPrinter p f) := of_request (cls := 0x37) rfl rfl
theorem setClock (p : Port) (f : List Byte) : Statement (.setClock p f) := of_request (cls := 0x38) rfl rfl
theorem alignMinute (p : Port) (f : List Byte) : Statement (.alignMinute p f) := of_request (cls := 0x39) rfl rfl
theorem voidTicket (p : Port) (f : List Byte) : Statement (.voidTicket p f) := of_request (cls := 0x3A) rfl rfl
theorem dayClose (p : Port) (f : List Byte) : Statement (.dayClose p f) := of_request (cls := 0x3B) rfl rfl
theorem copy (p : Port) (f : List Byte) : Statement (.copy p f) := of_request (cls := 0x40) rfl rfl
theorem discardJob (p : Port) (f : List Byte) : Statement (.discardJob p f) := of_request (cls := 0x41) rfl rfl
theorem queryTicket (p : Port) (f : List Byte) : Statement (.queryTicket p f) := of_request (cls := 0x50) rfl rfl
theorem listTickets (p : Port) (f : List Byte) : Statement (.listTickets p f) := of_request (cls := 0x51) rfl rfl
theorem queryBridge (p : Port) (f : List Byte) : Statement (.queryBridge p f) := of_request (cls := 0x52) rfl rfl
theorem queryGrade (p : Port) (f : List Byte) : Statement (.queryGrade p f) := of_request (cls := 0x53) rfl rfl
theorem queryTare (p : Port) (f : List Byte) : Statement (.queryTare p f) := of_request (cls := 0x54) rfl rfl
theorem queryTill (p : Port) (f : List Byte) : Statement (.queryTill p f) := of_request (cls := 0x55) rfl rfl
theorem queryPrinter (p : Port) (f : List Byte) : Statement (.queryPrinter p f) := of_request (cls := 0x56) rfl rfl
theorem queryJournal (p : Port) (f : List Byte) : Statement (.queryJournal p f) := of_request (cls := 0x57) rfl rfl
theorem queryTotals (p : Port) (f : List Byte) : Statement (.queryTotals p f) := of_request (cls := 0x58) rfl rfl
theorem badFrame (port : Port) (cls : Byte) : Statement (.badFrame port cls) := of_other rfl rfl
theorem badClass (port : Port) (cls : Byte) : Statement (.badClass port cls) := of_other rfl rfl
theorem interByteTimeout (port : Port) : Statement (.interByteTimeout port) := of_other rfl rfl
theorem breakCondition (port : Port) : Statement (.breakCondition port) := of_other rfl rfl
theorem answerTransmitted (port : Port) : Statement (.answerTransmitted port) := of_other rfl rfl
theorem sampleEvent (bridge : BridgeId) (raw : BitVec 24) (status : Byte) : Statement (.sampleEvent bridge raw status) := of_other rfl rfl
theorem badSampleFrame (bridge : BridgeId) : Statement (.badSampleFrame bridge) := of_other rfl rfl
theorem sampleGapTimeout (bridge : BridgeId) : Statement (.sampleGapTimeout bridge) := of_other rfl rfl
theorem staleTimerExpiry (bridge : BridgeId) : Statement (.staleTimerExpiry bridge) := of_other rfl rfl
theorem beamEvent (bridge : BridgeId) (which : BeamEnd) (high : Bool) : Statement (.beamEvent bridge which high) := of_other rfl rfl
theorem motionDeadline (bridge : BridgeId) : Statement (.motionDeadline bridge) := of_other rfl rfl
theorem statusReady (port : Port) : Statement (.statusReady port) := of_other rfl rfl
theorem statusDone (port : Port) : Statement (.statusDone port) := of_other rfl rfl
theorem statusBusy (port : Port) : Statement (.statusBusy port) := of_other rfl rfl
theorem faultByte (port : Port) (reason : FaultReason) : Statement (.faultByte port reason) := of_other rfl rfl
theorem lineTimerExpiry (port : Port) : Statement (.lineTimerExpiry port) := of_other rfl rfl
theorem jobStart (port : Port) : Statement (.jobStart port) := of_other rfl rfl
theorem secondBoundary : Statement .secondBoundary := of_other rfl rfl
theorem mainReset (cause : ResetCause) : Statement (.mainReset cause) := of_other rfl rfl
theorem mainResetRelease (pins : ReleasePins) : Statement (.mainResetRelease pins) := of_other rfl rfl
theorem backupPowerOnReset : Statement .backupPowerOnReset := of_other rfl rfl
theorem consoleReceivedByte (port : Port) (byte : Byte) : Statement (.consoleReceivedByte port byte) := of_other rfl rfl
theorem indicatorReceivedByte (bridge : BridgeId) (byte : Byte) : Statement (.indicatorReceivedByte bridge byte) := of_other rfl rfl

end Sys2Proof.Laws.ClassTable
end

