-- ==== Sys2Proof/Laws/Weigh.lean ====
section
/-! SUPPORT. The weigh link once over: what its requests answer, what a sample does, and what a capture delivers. -/

namespace Sys2Proof.Machine

/-- 01 R13 steps 8 and 9 are the checks of a claim on a bridge. -/
theorem Bridge.claimRefusal_eq (br : Bridge) : br.claimRefusal = firstFailure (linkChecks br) := by
  unfold Bridge.claimRefusal linkChecks
  cases br.link <;> simp

/-- 01 R13 step 3 of OPEN-TICKET: no slot is FREE exactly when the table is full. -/
theorem State.freeSlot_isNone (s : State) : s.freeSlot.isNone = ((entries s.tickets).length == s.tickets.length) := by
  unfold State.freeSlot
  rw [Bool.eq_iff_iff, Option.isNone_iff_eq_none, firstEmpty_none, beq_iff_eq, entries_length_eq]

/-- The first failure of a table in two parts. -/
theorem firstFailure_append (a b : List (Bool × ResultCode)) : firstFailure (a ++ b) = (firstFailure a).or (firstFailure b) := by
  induction a with
  | nil => simp
  | cons x r ih => obtain ⟨f, c⟩ := x; simp only [List.cons_append, firstFailure_cons, ih]; split <;> simp

/-- 01 R10: ZERO answers the first check that fails, or makes the reference the zero offset. -/
theorem zeroReply_eq (br : Bridge) (p : Port) (s : State) (b : BridgeId) (h : s.bridge b = br) : 
   zeroReply p b s = match firstFailure (zeroChecks br) with | some c => .refuse c | none => .done (Wire.signed (br.reference.getD 0)) (s.setBridge b {br with zeroOffset := br.reference.getD 0}) := by
  subst h
  unfold zeroReply zeroChecks
  dsimp only
  rw [Bridge.claimRefusal_eq]
  simp only [linkChecks, List.cons_append, List.nil_append, firstFailure_cons, firstFailure_nil]
  cases h1 : (s.bridge b).link == LinkState.down
  swap
  · simp
  cases h2 : (s.bridge b).link == LinkState.fault
  swap
  · simp
  cases h3 : (s.bridge b).weighing
  swap
  · simp
  cases h4 : (s.bridge b).stable
  · simp
  cases h5 : (s.bridge b).reference
  · simp
  simp only [zeroOutOfRange, Nat.cast_natAbs, Int.cast_id, decide_eq_true_eq]
  simp
  split <;> rfl

/-- 01 R13: OPEN-TICKET answers the first check that fails, or goes into flight. -/
theorem openTicketReply_eq (p : Port) (s : State) (r : OpenTicketReq) : 
   openTicketReply p r s = match firstFailure (openTicketChecks s r) with | some c => .refuse c | none => .flight r.bridge (s.startWeighing r.bridge p (.gross r.vehicle r.seller)) := by
  unfold openTicketReply openTicketChecks
  rw [Bridge.claimRefusal_eq, State.freeSlot_isNone]
  simp only [firstFailure_cons]
  cases h : ((entries s.tickets).length == s.tickets.length)
  · simp <;> (cases firstFailure (linkChecks (s.bridge r.bridge)) <;> rfl)
  · simp

/-- 01 R13: STORE-TARE answers the first check that fails, or goes into flight. -/
theorem storeTareReply_eq (p : Port) (s : State) (r : StoreTareReq) : 
   storeTareReply p r s = match firstFailure (storeTareChecks s r) with | some c => .refuse c | none => .flight r.bridge (s.startWeighing r.bridge p (.storeTare r.vehicle)) := by
  unfold storeTareReply storeTareChecks
  rw [Bridge.claimRefusal_eq]
  simp only [firstFailure_cons]
  cases h : s.clock.valid
  · simp
  · simp <;> (cases firstFailure (linkChecks (s.bridge r.bridge)) <;> rfl)

/-- 01 R13: WEIGH-DROP and WEIGH-TARE answer the first check that fails, or go into flight with the mark set. -/
theorem weighReply_eq (drop : Bool) (p : Port) (s : State) (r : WeighReq) : 
   weighReply drop p r s = (match firstFailure (weighChecks drop s r) with
       | some c => .refuse c
       | none => 
         (match s.gradeIndex r.code, s.findTicket r.ticket with
           | some g, some (i,t) => .flight r.bridge ((s.putTicket i { t with pending := some r.bridge }).startWeighing r.bridge p (if drop then .drop r.ticket g r.manual else .tare r.ticket g r.manual))
           | _, _ => .refuse .done)) := by
  unfold weighReply weighChecks
  rw [firstFailure_append, Bridge.claimRefusal_eq]
  simp only [State.ticket]
  cases hg : s.gradeIndex r.code
  · simp
  rcases ht : s.findTicket r.ticket with _ | ⟨i, t⟩
  · simp
  simp only [Option.map_some, Option.isNone_some, firstFailure_cons, firstFailure_nil, Option.any_some]
  cases h1 : t.state <;> (try simp)
  cases h2 : t.pending <;> (try simp)
  cases drop
  · simp <;> (cases firstFailure (linkChecks (s.bridge r.bridge)) <;> rfl)
  · by_cases h6 : 6 < t.weighings.length <;> simp [h6] <;> (cases firstFailure (linkChecks (s.bridge r.bridge)) <;> rfl)

/-- 10 R190: a request that goes into flight after its frame was taken. -/
theorem State.beginFlight_idleReceiver (u : State) (p : Port) (cls : Byte) (b : BridgeId) : (u.idleReceiver p).beginFlight p cls b = u.flying p cls b := by
  unfold State.beginFlight
  rw [State.idleReceiver_console_self]
  unfold State.idleReceiver
  rw [State.setConsole_setConsole]
  rfl

/-- 01 R6, R7: the evaluation of a counted sample. -/
theorem Bridge.evaluate_eq (br : Bridge) (raw : Int) : ({br with dividerCount := 0} : Bridge).evaluate raw = br.counted raw := by
  unfold Bridge.evaluate Bridge.counted
  have h1 : ((br.config.positionCheck && !br.beamsClear) = true) ↔ (br.config.positionCheck = true ∧ (br.entryBeam = .broken ∨ br.exitBeam = .broken)) := by
    unfold Bridge.beamsClear
    cases br.config.positionCheck <;> cases br.entryBeam <;> cases br.exitBeam <;> decide
  have h2 : ∀ ref, ((raw - ref).natAbs ≤ br.config.band * br.config.division) ↔ (|raw - ref| ≤ (br.config.band : Int) * br.config.division) := by
    intro ref
    rw [Int.abs_eq_natAbs]; exact_mod_cast Iff.rfl
  have h3 : ({br with dividerCount := 0} : Bridge).beamsClear = br.beamsClear := rfl
  dsimp only
  rw [h3]
  simp only [h1, h2] <;> rfl

/-- 01 R3, R5: a good frame before its sample is counted. -/
theorem State.setLink_sampled (s : State) (b : BridgeId) (raw : Int) :
    ((s.setBridge b { s.bridge b with latest := some ⟨raw, false⟩, staleTimer := some (s.bridge b).config.staleTimeout, rx := .hunting }).setLink b .live) = s.setBridge b ((s.bridge b).sampled raw) := by
  unfold State.setLink
  dsimp only
  rw [State.bridge_setBridge_self]
  simp only [State.setBridge_setBridge]
  cases h : (s.bridge b).link <;> simp [Bridge.sampled, h]

/-- 01 R3, R6, R14: a good frame whose sample is counted: it captures the pending weighing of a stable link. -/
theorem State.sample_counted (s : State) (b : BridgeId) (raw : Int) (h : (s.bridge b).config.divider ≤ (s.bridge b).dividerCount + 1) :
   s.sample b raw false = (let br := ((s.bridge b).sampled raw).counted raw
     match br.weighing with
     | some x => if br.stable then (s.setBridge b br).capture b x raw else s.setBridge b br
     | none => s.setBridge b br) := by
  unfold State.sample
  simp only [Bool.false_eq_true, if_false]
  rw [State.setLink_sampled]
  unfold State.divide
  simp only [State.bridge_setBridge_self]
  rw [if_pos (by exact h)]
  unfold State.countedSample
  dsimp only
  rw [State.bridge_setBridge_self, State.setBridge_setBridge, State.setBridge_setBridge]
  have e := Bridge.evaluate_eq ((s.bridge b).sampled raw) raw
  rw [e] <;> rfl

/-- Bridge `b` after the counted sample `raw`, before its weighing is captured. -/
abbrev State.afterCount (s : State) (b : BridgeId) (raw : Int) : State := s.setBridge b (((s.bridge b).sampled raw).counted raw)

/-- 01 R14: a capture, from what its delivery answers. -/
theorem execSampleEvent_capture (s : State) (b : BridgeId) (raw : BitVec 24) (status : Byte) (x : Weighing) (cls : Byte) (h : s.Captures b raw.toInt x cls) (hst : status.getLsbD 0 = false) 
  (d : Delivery) (hd : (s.setBridge b (((s.bridge b).sampled raw.toInt).counted raw.toInt)).deliver b ((s.bridge b).capturedWeight raw.toInt) x = d) (hc : d.state.consoles = s.consoles) :
  exec (.sampleEvent b raw status) s = .next ((d.state.setBridge b (s.capturedBridge b raw.toInt ((s.bridge b).capturedWeight raw.toInt) x.task.purpose d.ticket d.code)).landed x.console cls d.code (Wire.bridge b ++ Wire.signed ((s.bridge b).capturedWeight raw.toInt) ++ d.fields)) := by
  obtain ⟨h1, h2, h3, h4, h5, h6⟩ := h
  simp only [exec, execSampleEvent, h1, hst, Bool.false_eq_true, if_false]
  rw [State.sample_counted _ _ _ h3]
  have h4' : (((s.bridge b).sampled raw.toInt).counted raw.toInt).weighing = some x := h4
  simp only [h4', h5, if_true]
  unfold State.capture
  rw [State.bridge_setBridge_self]
  have : (((s.bridge b).sampled raw.toInt).counted raw.toInt).capturedWeight raw.toInt = (s.bridge b).capturedWeight raw.toInt := rfl
  dsimp only
  rw [this, hd, State.endFlight_eq]
  have : ∀ y, ((d.state.setBridge b y).console x.console).inFlight = some ⟨cls, b⟩ := by
    intro y; show (d.state.consoles.get _).inFlight = _; rw [hc]; exact h6
  rw [this]
  rfl

/-- 01 R15: a GROSS capture between 20 d and Max opens its ticket. -/
theorem State.deliver_gross (s : State) (b : BridgeId) (raw : Int) (x : Weighing) (v sl) (w : Nat) (ht : x.task = .gross v sl)
  (h20 : 20 * (s.bridge b).config.division ≤ w) (hmax : w ≤ (s.bridge b).config.capacity) :
  (s.afterCount b raw).deliver b w x = (s.afterCount b raw).deliverGross b w v sl := by
  unfold State.deliver
  dsimp only
  rw [ht, State.bridge_setBridge_self]
  have : grossRefusal ((((s.bridge b).sampled raw).counted raw).config) w = none := by
    unfold grossRefusal
    have e : ((((s.bridge b).sampled raw).counted raw).config) = (s.bridge b).config := rfl
    rw [e, if_neg (by omega), if_neg (by omega)]
  simp only [this]; rfl

/-- 01 R15: a STORE_TARE capture between 20 d and Max stores its tare. -/
theorem State.deliver_storeTare (s : State) (b : BridgeId) (raw : Int) (x : Weighing) (v) (w : Nat) (ht : x.task = .storeTare v)
  (h20 : 20 * (s.bridge b).config.division ≤ w) (hmax : w ≤ (s.bridge b).config.capacity) :
  (s.afterCount b raw).deliver b w x = (s.afterCount b raw).deliverStoreTare b w v := by
  unfold State.deliver
  dsimp only
  rw [ht, State.bridge_setBridge_self]
  have : grossRefusal ((((s.bridge b).sampled raw).counted raw).config) w = none := by
    unfold grossRefusal
    have e : ((((s.bridge b).sampled raw).counted raw).config) = (s.bridge b).config := rfl
    rw [e, if_neg (by omega), if_neg (by omega)]
  simp only [this]; rfl

/-- 01 R15: a weight at least d below the last one passes the checks of a DROP or TARE capture. -/
theorem lowerRefusal_counted (s : State) (b : BridgeId) (raw : Int) (last w : Nat) (hmax : w ≤ (s.bridge b).config.capacity) (hmin : w + (s.bridge b).config.division ≤ last) :
  lowerRefusal ((((s.bridge b).sampled raw).counted raw).config) last w = none := by
    unfold lowerRefusal
    have e : ((((s.bridge b).sampled raw).counted raw).config) = (s.bridge b).config := rfl
    rw [e, if_neg (by omega), if_neg (by omega), if_neg (by omega)]

/-- 01 R15: a DROP capture that passes its checks appends its line. -/
theorem State.deliver_drop (s : State) (b : BridgeId) (raw : Int) (x : Weighing) (n g manual) (i : Nat) (t : Ticket) (w : Nat) (ht : x.task = .drop n g manual)
  (hf : s.findTicket n = some (i, t)) (hmax : w ≤ (s.bridge b).config.capacity) (hmin : w + (s.bridge b).config.division ≤ t.lastWeight) :
  (s.afterCount b raw).deliver b w x = (s.afterCount b raw).deliverDrop b w i t g manual := by
  unfold State.deliver
  dsimp only
  rw [ht, State.bridge_setBridge_self]
  have hf' : (s.afterCount b raw).findTicket n = some (i, t) := hf
  simp only [hf', lowerRefusal_counted s b raw _ w hmax hmin]; rfl

/-- 01 R15: a TARE capture that passes its checks closes its ticket. -/
theorem State.deliver_tare (s : State) (b : BridgeId) (raw : Int) (x : Weighing) (n g manual) (i : Nat) (t : Ticket) (w : Nat) (ht : x.task = .tare n g manual)
  (hf : s.findTicket n = some (i, t)) (hmax : w ≤ (s.bridge b).config.capacity) (hmin : w + (s.bridge b).config.division ≤ t.lastWeight) :
  (s.afterCount b raw).deliver b w x = (s.afterCount b raw).deliverTare b w x.console i t g manual := by
  unfold State.deliver
  dsimp only
  rw [ht, State.bridge_setBridge_self]
  have hf' : (s.afterCount b raw).findTicket n = some (i, t) := hf
  simp only [hf', lowerRefusal_counted s b raw _ w hmax hmin]; rfl

end Sys2Proof.Machine
end

