-- ==== Sys2Proof/Laws/Requests.lean ====
section
/-! SUPPORT. Tickets, jobs and payment once over: what their requests answer when a check fails, and what closing a
ticket and offering a job do. -/

namespace Sys2Proof.Machine

/-- The lowest empty position is the first empty one. -/
theorem firstEmpty_eq_some (s : State) (i : Nat) (hfree : s.tickets[i]? = some none) (hmin : ∀ j < i, s.tickets[j]? ≠ some none) : firstEmpty s.tickets = some i := by
      cases hc : firstEmpty s.tickets with
      | none => rw [firstEmpty_none] at hc; exact absurd (List.mem_of_getElem? hfree) hc
      | some j =>
        obtain ⟨a1, a2⟩ := firstEmpty_some hc
        rcases lt_trichotomy i j with h | h | h
        · exact absurd hfree (a2 i h)
        · rw [h]
        · exact absurd a1 (hmin j h)

/-- 06 R109: an optional job of a console offered to its own port. -/
theorem State.offer_newJob (s u : State) (p : Port) (k : JobKind) (sn : Snapshot)  (h : u.printers = s.printers) :
   u.offer p (newJob k p sn none) = (u.offered p k sn, if s.room p then some ((s.printer p).queue.length + 1) else none) := by
  rw [State.offer_eq]
  have e : u.room p = s.room p := by unfold State.room State.printer; rw [h]
  have e2 : u.printer p = s.printer p := by simp [State.printer, h]
  rw [e]
  unfold State.offered
  rw [e, e2]
  split <;> rfl

/-- 04 R75: the slip field of an offered job. -/
theorem Wire.slip_offered (s : State) (p : Port) : Wire.slip (if s.room p then some ((s.printer p).queue.length + 1) else none) = s.slipBytes p := by
  unfold Wire.slip State.slipBytes
  split <;> simp [Wire.optNum, Wire.num, Wire.absent]

/-- 04 R63 to R75: a ticket closed in a state that shares printers, grades and clock with `s`. -/
theorem State.closeTicket_eq (s u : State) (i : Nat) (t : Ticket) (p : Port) (hp : u.printers = s.printers) (hg : u.grades = s.grades) (hc : u.clock = s.clock) :
   u.closeTicket i t p = (u.closed i (settleTicket s.grades s.clock t) p, settleTicket s.grades s.clock t, if s.room p then some ((s.printer p).queue.length + 1) else none) := by
  unfold State.closeTicket
  have hs : settleTicket u.grades u.clock t = settleTicket s.grades s.clock t := by rw [hg, hc]
  rw [hs]
  dsimp only
  unfold State.offerSettleSlip
  rw [State.offer_newJob s _ p _ _ (by exact hp)]
  rfl

/-- 04 R75: the settlement outcome of a ticket just settled. -/
theorem settlementFields_eq (s : State) (t' : Ticket) (f : SettlementFigures) (p : Port) (h : t'.settlement = some ⟨f, none⟩) :
   settlementFields t' (if s.room p then some ((s.printer p).queue.length + 1) else none) = s.outcomeFields p t' f := by
  unfold settlementFields State.outcomeFields
  rw [h, Wire.slip_offered]; rfl

/-- Closing a ticket leaves the bridges alone. -/
theorem State.closed_setBridge (s : State) (b : BridgeId) (x y : Bridge) (i : Nat) (t : Ticket) (p : Port) : ((s.setBridge b x).closed i t p).setBridge b y = (s.closed i t p).setBridge b y := by
  unfold State.closed State.offered
  have e : ((({ (s.setBridge b x).putTicket i t with day := { (s.setBridge b x).day with settled := satAdd (s.setBridge b x).day.settled 1 } } : State)).room p) = s.room p := rfl
  have e2 : ((({ s.putTicket i t with day := { s.day with settled := satAdd s.day.settled 1 } } : State)).room p) = s.room p := rfl
  dsimp only
  rw [e, e2]
  split <;> simp [State.setBridge, State.withJob, State.putTicket, State.printer] <;> rfl

/-- Offering a job leaves the console receivers alone. -/
theorem State.idleReceiver_offered (u : State) (p q : Port) (k sn) : (u.idleReceiver p).offered q k sn = (u.offered q k sn).idleReceiver p := by
  unfold State.offered
  have e : (u.idleReceiver p).room q = u.room q := rfl
  rw [e]; split <;> rfl

/-- Closing a ticket leaves the console receivers alone. -/
theorem State.idleReceiver_closed (u : State) (p q : Port) (i t) : (u.idleReceiver p).closed i t q = (u.closed i t q).idleReceiver p := by
  unfold State.closed
  dsimp only
  rw [show (({ (u.idleReceiver p).putTicket i t with day := { (u.idleReceiver p).day with settled := satAdd (u.idleReceiver p).day.settled 1 } } : State)) = (({ u.putTicket i t with day := { u.day with settled := satAdd u.day.settled 1 } } : State)).idleReceiver p from rfl]
  rw [State.idleReceiver_offered]; rfl

/-- 06 R109: the two checks of an obligatory job. -/
theorem State.queueRefusal_eq (s : State) (p : Port) : s.queueRefusal p = firstFailure (s.jobChecks p) := by
  unfold State.queueRefusal State.jobChecks Config.queuePlaces
  cases (s.printer p).present <;> simp

/-- 05 R90: the reason decided is that of the first line that applies. -/
theorem decideReason_eq (s : State) (m : Method) (amount seller : Nat) : decideReason m s.limits amount (s.sellerCash seller) s.sellers.length = paymentReason s m amount seller := by
  unfold decideReason paymentReason Config.sellerEntries
  simp only [gt_iff_lt, ge_iff_le, Option.isNone_iff_eq_none]

/-- 02 R39: SET-PARTY answers the first check that fails, or replaces the fields it carries. -/
theorem setPartyReply_eq (p : Port) (s : State) (r : SetPartyReq) : setPartyReply p r s = (match firstFailure (setPartyChecks s r.ticket) with
    | some c => .refuse c
    | none => (match s.findTicket r.ticket with
       | some (i, t) => .done (Wire.optText (r.vehicle.or t.vehicle) ++ Wire.optNum 3 (r.seller.or t.seller)) (s.putTicket i { t with vehicle := r.vehicle.or t.vehicle, seller := r.seller.or t.seller })
       | none => .refuse .done)) := by
  unfold setPartyReply setPartyChecks
  simp only [State.ticket]
  rcases s.findTicket r.ticket with _ | ⟨i, t⟩
  · simp
  · cases h : t.state <;> simp [h]

/-- 02 R40: VOID-TICKET answers the first check that fails, or voids the ticket and offers its slip. -/
theorem voidTicketReply_eq (p : Port) (s : State) (n : Nat) : voidTicketReply p n s = (match firstFailure (voidChecks s n) with
    | some c => .refuse c
    | none => (match s.findTicket n with
       | some (i, t) => 
          let t' : Ticket := { t with state := .void, void := some ⟨s.stamp⟩ }
          let u := { s.putTicket i t' with day := { s.day with voided := min (s.day.voided + 1) 999999999999 } }
          .done (Wire.num 3 n ++ s.slipBytes p) (u.offered p .voidSlip (u.snapTicket t'))
       | none => .refuse .done)) := by
  unfold voidTicketReply voidChecks setPartyChecks
  simp only [State.ticket]
  rcases s.findTicket n with _ | ⟨i, t⟩
  · simp
  · cases h : t.state <;> cases hp : t.pending <;> simp [h, hp]
    all_goals (rw [State.offer_newJob s _ p _ _ (by rfl)]; dsimp only; rw [Wire.slip_offered]; simp only [voidedTicket, hp]; exact ⟨trivial, rfl⟩)

/-- 04 R78: SET-DEDUCTION answers the first check that fails. -/
theorem setDeductionReply_refused (p : Port) (s : State) (r : SetDeductionReq) (code) (hl : 1 ≤ r.line) (hc : firstFailure (setDeductionChecks s r) = some code) : setDeductionReply p r s = .refuse code := by
  unfold setDeductionReply
  unfold setDeductionChecks at hc
  simp only [State.ticket] at hc
  rcases hf : s.findTicket r.ticket with _ | ⟨i, t⟩
  · simp [hf] at hc; simp [hc]
  · simp only [hf, Option.map_some, Option.isNone_some, firstFailure_cons, Option.any_some, firstFailure_nil, Bool.false_eq_true, if_false] at hc
    dsimp only
    cases hp : t.pending.isSome
    · simp only [hp, Bool.false_eq_true, if_false] at hc ⊢
      cases hst : t.state <;> simp [hst] at hc ⊢ <;> (try exact hc)
      all_goals
        have hlen : (resettleTicket (t.setManual (r.line - 1) r.manual)).lines.length = t.lines.length := by simp [resettleTicket, Ticket.setManual]
        have : (resettleTicket (t.setManual (r.line - 1) r.manual)).lines[r.line - 1]? = none := by
          rw [List.getElem?_eq_none_iff, hlen]; omega
        rw [this]; simp [hc.2]
    · simp only [hp, if_true] at hc ⊢; simp at hc; simp [hc]

/-- 03 R57: APPLY-STORED-TARE answers the first check that fails. -/
theorem applyTareReply_refused (p : Port) (s : State) (r : ApplyTareReq) (code) (hc : firstFailure (applyTareChecks s r) = some code) : applyTareReply p r s = .refuse code := by
  unfold applyTareReply
  unfold applyTareChecks at hc
  simp only [State.ticket] at hc
  rcases hg : s.gradeIndex r.code with _ | g
  · simp [hg] at hc; simp [hc]
  rcases hf : s.findTicket r.ticket with _ | ⟨i, t⟩
  · simp [hg, hf] at hc; simp [hc]
  simp only [hg, hf, Option.map_some, Option.isNone_some, firstFailure_cons, Option.any_some, firstFailure_nil, Bool.false_eq_true, if_false, Option.bind_some] at hc
  dsimp only
  cases hst : t.state <;> simp only [hst] at hc ⊢ <;> (try (simp at hc; simp [hc]; done))
  cases hp : t.pending.isSome
  swap
  · simp [hp] at hc; simp [hc]
  rcases hv : t.vehicle with _ | v
  · simp [hp, hv] at hc; simp [hc]
  rcases hta : s.findTare v with _ | ⟨j, e⟩
  · simp [hp, hv, hta] at hc; simp [hc, hta]
  simp [hp, hv, hta] at hc
  simp [hta]
  cases hvl : s.clock.valid <;> simp [hvl] at hc ⊢
  · exact hc
  cases hex : s.tareExpired e <;> simp [hex] at hc ⊢
  · rw [if_pos hc.1]; simp [hc.2]
  · exact hc

/-- 06 R125: COPY answers the first check that fails. -/
theorem copyReply_refused (p : Port) (s : State) (n : Nat) (code) (hc : firstFailure (((s.ticket n).isNone, .notFound) :: s.jobChecks p) = some code) : copyReply p n s = .refuse code := by
  unfold copyReply
  rw [firstFailure_cons, ← State.queueRefusal_eq] at hc
  simp only [State.ticket] at hc
  rcases hf : s.findTicket n with _ | ⟨i, t⟩
  · simp [hf] at hc; simp [hc]
  · simp [hf] at hc; simp [hc]

/-- 05 R87, R88, R91: PAY answers the first check that fails. -/
theorem payReply_refused (p : Port) (s : State) (r : PayReq) (code : ResultCode)
    (hc : firstFailure (payChecks s p r) = some code) : payReply p r s = .refuse code := by
  unfold payReply
  unfold payChecks at hc
  simp only [State.ticket] at hc
  rcases hf : s.findTicket r.ticket with _ | ⟨i, t⟩
  · simp [hf] at hc; simp [hc]
  simp only [hf, Option.map_some, Option.bind_some, Option.isNone_some, List.cons_append, List.nil_append,
    firstFailure_cons, Option.any_some, Bool.false_eq_true, if_false] at hc
  have hw : s.windowRefusal p = firstFailure ((!(s.till p).isOpen, .tillClosed) :: s.jobChecks p) := by
    simp [State.windowRefusal, State.queueRefusal_eq]
  have hh : s.holdRefusal t = firstFailure [(t.state == .held && !s.clock.valid, .clockInvalid),
      (t.state == .held && ((t.settlement.bind (·.figures.release)).isNone
        || (t.settlement.bind (·.figures.release)).any (dateBefore s.today)), .onHold)] := by
    unfold State.holdRefusal
    by_cases h : t.state = .held <;> simp only [firstFailure, h, ne_eq, not_true_eq_false, not_false_eq_true, beq_self_eq_true, Bool.true_and, if_true, if_false]
    swap
    · simp [h]
    cases s.clock.valid <;> simp only [Bool.not_true, Bool.not_false, Bool.false_eq_true, if_true, if_false]
    generalize t.settlement.bind (fun x => x.figures.release) = release
    cases release with
    | none => simp
    | some d => cases hd : dateBefore s.today d <;> simp [hd]
  have hst : (t.state ≠ .settled ∧ t.state ≠ .held) ↔ (t.state != .settled && t.state != .held) = true := by simp
  simp only [hst, hh, hw, decideReason_eq]
  cases h1 : t.state != .settled && t.state != .held
  swap
  · simp [h1] at hc; simp [hc]
  rcases hs : t.seller with _ | seller
  · simp [h1, hs] at hc; simp [hc]
  simp only [h1, hs, Option.isNone_some, Option.any_some, Bool.false_eq_true, if_false] at hc ⊢
  cases h2 : t.state == .held && !s.clock.valid
  swap
  · simp [h2] at hc; simp [hc, firstFailure]
  cases h3 : t.state == .held && ((t.settlement.bind (·.figures.release)).isNone
        || (t.settlement.bind (·.figures.release)).any (dateBefore s.today))
  swap
  · simp only [h2, h3, Bool.false_eq_true, if_false, if_true] at hc; simp [firstFailure]; simpa using hc
  simp only [h2, h3, Bool.false_eq_true, if_false] at hc
  simp only [firstFailure, Bool.false_eq_true, if_false]
  cases ho : (s.till p).isOpen
  · simp [ho] at hc; simp [hc]
  simp only [ho, Bool.not_true, Bool.false_eq_true, if_false] at hc ⊢
  rw [firstFailure_append] at hc
  cases hj : firstFailure (s.jobChecks p) with
  | some c => simp [hj] at hc; simp [hc]
  | none =>
    simp only [hj, Option.none_or, firstFailure_cons, firstFailure_nil] at hc
    have hm : ∀ re : Reason, methodUsed re = .cash ↔ (re == .cash) = true := by intro re; cases re <;> decide
    split at hc
    · rename_i h
      simp only [Bool.and_eq_true, decide_eq_true_eq] at h
      simp only [hm]
      rw [if_pos (by simpa [Option.map_map] using h)]
      simpa using hc
    · simp at hc

end Sys2Proof.Machine
end

