-- ==== Sys2Proof/Tests/Slice0.lean ====
section
/-! SUPPORT. Tests: the WellFormed smoke, the words of the class table and the lines, single steps of the manual's worked
examples (the expected values are the manual's), and for every obligation with hypotheses a state that meets them. -/

namespace Sys2Proof.Tests

open Sys2Proof Sys2Proof.Machine

set_option Elab.async false

/-! ### The yard of the worked examples (01 section 1.10, 02 section 2.10, 04 section 4.7) -/

/-- The state that a command leaves. -/
def after (c : Instr) (s : State) : State :=
  match exec c s with
  | .next t => t
  | .fault _ => s
  | .refused _ => s

/-- The newest answer of a port after a command. -/
def answer (c : Instr) (p : Port) (s : State) : Option Answer := ((after c s).console p).answers.getLast?

/-- A time on 2027-02-25. -/
def at' (h m s : Nat) : Stamp := ⟨⟨2027, 2, 25⟩, ⟨h, m, s⟩⟩

/-- Bridge 0 of 01 section 1.10. -/
def config0 : BridgeConfig := ⟨60000, 20, 1, 3, 1, 15, 1000, true⟩
/-- Bridge 1 of 02 section 2.10. -/
def config1 : BridgeConfig := ⟨60000, 10, 1, 2, 1, 15, 1000, true⟩

/-- A LIVE link with both beams clear, its last counted sample and its steady count. -/
def liveLink (c : BridgeConfig) (raw : Int) (steady : Nat) : Bridge :=
  { resetBridge c .clear .clear with
    link := .live, staleTimer := some 1000, latest := some ⟨raw, false⟩, reference := some raw, steady := steady }

/-- 02 section 2.10. -/
def copper : GradeDef := ⟨310, txt "Copper 2", 64250, 5, false, none⟩
/-- 02 section 2.10. -/
def steel : GradeDef := ⟨120, txt "Heavy steel", 2150, 0, false, none⟩
/-- A restricted grade held for 3 days (04 section 4.10). -/
def alu : GradeDef := ⟨455, txt "Alu cast", 13750, 15, true, some 3⟩

/-- Ticket 1,207 after its gross capture. -/
def loaded : Ticket :=
  { number := 1207, state := .loaded, pending := none, vehicle := some (txt "KT-4471"), seller := some 20315
    opened := some (at' 10 14 9), weighings := [⟨.gross, 31240, 0, some (at' 10 14 9)⟩], lines := [], settlement := none
    payment := none, void := none }

/-- Ticket 1,207 after its drop, for seller 20,316. -/
def dropped : Ticket :=
  { loaded with
    seller := some 20316, weighings := loaded.weighings ++ [⟨.drop, 29420, 0, some (at' 10 21 52)⟩]
    lines := [⟨4, 1820, none, none⟩] }

/-- Ticket 1,207 settled (04 section 4.7). -/
def settled : Ticket :=
  { dropped with
    state := .settled, weighings := dropped.weighings ++ [⟨.tare, 14240, 1, some (at' 10 30 14)⟩]
    lines := [⟨4, 1820, none, some ⟨64250, 5, false, none, 9, 1811, 116356750⟩⟩,
              ⟨11, 15180, some 300, some ⟨2150, 0, false, none, 300, 14880, 31992000⟩⟩]
    settlement := some ⟨⟨some (at' 10 30 14), 148348750, 1483487, 0, none⟩, none⟩ }

/-- An undated HELD ticket. -/
def held : Ticket :=
  { loaded with
    number := 4, state := .held, weighings := loaded.weighings ++ [⟨.tare, 31140, 0, none⟩]
    lines := [⟨20, 100, none, some ⟨13750, 15, true, some 3, 2, 98, 1347500⟩⟩]
    settlement := some ⟨⟨none, 1347500, 13475, 3, none⟩, none⟩ }

/-- The part of the worked examples at a time of 2027-02-25, with one ticket in slot 9. -/
def yard (t : Ticket) (now : Stamp) : State :=
  { State.reset with
    bridges := ⟨liveLink config0 31247 3, liveLink config1 14236 2⟩
    tickets := State.reset.tickets.set 9 (some t)
    ticketCounter := 1208
    grades := ((State.reset.grades.set 4 ⟨some copper, 0, 0, 0⟩).set 11 ⟨some steel, 0, 0, 0⟩).set 20 ⟨some alu, 0, 0, 0⟩
    clock := ⟨now, 0, true⟩ }

/-- Console 1 holds a weighing in flight at a bridge whose next counted sample may capture it. -/
def weighing (b : BridgeId) (cls : Byte) (task : WeighTask) (s : State) : State :=
  { s.setBridge b { s.bridge b with weighing := some ⟨1, task, 15⟩ } with
    consoles := s.consoles.set 1 { s.console 1 with inFlight := some ⟨cls, b⟩, busy := true } }

/-- Printer port 2 with a head job in a state, its serial, its next line, and its two lines rendered. -/
def job (state : JobState) (n k : Nat) : Job :=
  ⟨.payVoucher, 2, (yard settled (at' 10 41 30)).snapTicket settled, none, state, some n, some k, 0⟩
/-- The port that holds it. -/
def printingPort (state : PortState) (js : JobState) (k : Nat) : Printer :=
  { releasedPrinter true 32 3 with
    state := state, queue := [job js 58112 k]
    rendered := if js = .printing then some [txt "TILL", txt "2"] else none }
/-- The part that holds that port, with the journal entry of the job. -/
def printing (state : PortState) (js : JobState) (k : Nat) : State :=
  { (yard settled (at' 10 41 31)).setPrinter 2 (printingPort state js k) with
    serialCounter := 58113, openSerials := ⟨none, none, some 58112, none⟩
    journal := [⟨58111, .settleSlip, some 1206, none, none, none, 1, .complete, 0⟩,
                ⟨58112, .payVoucher, some 1207, some 2, none, some 1483487, 2, .printing, 0⟩] }

/-- Till 2 of 05 section 5.9 at its close. -/
def till2 : Till := ⟨true, some (at' 7 30 0), 200000, 200000, 304685, 2, 3, 1589450, 1894133, 7, none, none⟩

/-! ### Well-formed commands (WellFormed) -/

theorem test_wf_request_fits : (Instr.listTickets 0 (List.replicate 249 0)).wellFormed = true := by decide +kernel
theorem test_wf_request_too_long : (Instr.listTickets 0 (List.replicate 250 0)).wellFormed = false := by decide +kernel
theorem test_wf_unnamed_class : (Instr.badClass 0 0x18).wellFormed = true := by decide +kernel
theorem test_wf_named_class : (Instr.badClass 0 0x17).wellFormed = false := by decide +kernel

/-! ### Words of the lines (11 R197 to R201) -/

/-- 11 section 11.2: the body of PAY for ticket 1,207 in cash. -/
theorem test_decode_pay : Decode.pay [0x00, 0x04, 0xB7, 0x00] = some ⟨1207, .cash⟩ := by decide +kernel
/-- 11 section 11.2: its check byte makes the sum 100h. -/
theorem test_check_pay : Decode.consoleCheckGood (0x05 + 0x23 + 0x00 + 0x04 + 0xB7 + 0x00) 0x1D = true := by decide +kernel
/-- 11 section 11.2: the class byte 23h is PAY. -/
theorem test_class_pay : Decode.requestCommand 0x23 3 [0x00, 0x04, 0xB7, 0x00] = some (.pay 3 [0x00, 0x04, 0xB7, 0x00]) := by decide +kernel
/-- 11 section 11.2: the answer on the line. -/
theorem test_answer_frame : (⟨0x23, .wrongState, []⟩ : Answer).frame = [0xA6, 0x02, 0x23, 0x0A, 0xD1] := by decide +kernel
/-- 11 R200: 31,247 kg is 00h 7Ah 0Fh, status 00h, check 77h. -/
theorem test_sample_frame :
    Decode.sampleCheckGood [0x00, 0x7A, 0x0F, 0x00, 0x77] = true ∧ (Decode.rawWeight 0x00 0x7A 0x0F).toInt = 31247 := by decide +kernel
/-- 11 R200: -11 kg is FFh FFh F5h. -/
theorem test_sample_negative : (Decode.rawWeight 0xFF 0xFF 0xF5).toInt = -11 := by decide +kernel
/-- 11 R201: the line "TILL", 27 spaces and "2". -/
theorem test_line_message : PrinterMessage.bytes (.line (txt "TILL" ++ List.replicate 27 0x20 ++ txt "2"))
    = [0xF1, 0x20, 0x54, 0x49, 0x4C, 0x4C] ++ List.replicate 27 0x20 ++ [0x32] := by decide +kernel
/-- 11 R201: the status bytes, and one that is discarded. -/
theorem test_status_bytes : [0x51, 0x52, 0x53, 0x61, 0x62, 0x63, 0x64].map (Decode.statusCommand 1)
    = [some (.statusReady 1), some (.statusDone 1), some (.statusBusy 1), some (.faultByte 1 .noPaper),
       some (.faultByte 1 .coverOpen), some (.faultByte 1 .headHot), none] := by decide +kernel
/-- 11 R198: the weighing families: bridge 1, "AB", seller 20,315; ticket 1,207, bridge 0, code 310, no manual. -/
theorem test_decode_weighings :
    Decode.openTicket [0x01, 0x02, 0x41, 0x42, 0x00, 0x4F, 0x5B] = some ⟨1, some (txt "AB"), some 20315⟩
    ∧ Decode.weigh [0x00, 0x04, 0xB7, 0x00, 0x01, 0x36, 0xFF, 0xFF, 0xFF] = some ⟨1207, 0, 310, none⟩ := by decide +kernel
/-- 11 R198: a grade: index 4, code 310, "Cu", price 64,250, 5 per mille, not restricted, no hold days. -/
theorem test_decode_grade : Decode.setGrade [0x04, 0x01, 0x36, 0x02, 0x43, 0x75, 0x00, 0xFA, 0xFA, 0x00, 0x05, 0x00, 0xFF]
    = some ⟨4, ⟨310, txt "Cu", 64250, 5, false, none⟩⟩ := by decide +kernel
/-- 09 section 9.5: dates taken and refused BAD_FIELD. -/
theorem test_decode_clock :
    (Decode.setClock [28, 2, 29, 6, 0, 0]).isSome = true ∧ Decode.setClock [27, 2, 29, 6, 0, 0] = none
    ∧ Decode.setClock [27, 4, 31, 6, 0, 0] = none ∧ Decode.setClock [27, 6, 10, 24, 0, 0] = none
    ∧ Decode.setClock [27, 6, 10, 12, 60, 0] = none ∧ Decode.setClock [99, 12, 31, 23, 59, 59] = some ⟨⟨2099, 12, 31⟩, ⟨23, 59, 59⟩⟩ := by
  decide +kernel
/-- The opcode table gives no row any bits. -/
theorem test_no_word : decodeTableWord 0 0 = none ∧ decodeTableWord 64 0xA6 = none := by decide +kernel

/-! ### Weigh links (01 sections 1.10 and 1.11) -/

/-- 01 section 1.10: the sample that makes bridge 0 stable captures W = 31,240. -/
theorem test_gross_capture :
    let s := weighing 0 0x10 (.gross (some (txt "KT-4471")) (some 20315))
      ({ yard loaded (at' 10 14 9) with tickets := State.reset.tickets, ticketCounter := 1207 }.setBridge 0 (liveLink config0 31244 2))
    let t := after (.sampleEvent 0 31247 0) s
    t.tickets[0]? = some (some loaded) ∧ t.ticketCounter = 1208
      ∧ (t.bridge 0).lastCapture = some ⟨31240, some (at' 10 14 9), .gross, some 1207, .done⟩
      ∧ (t.console 1).answers = [⟨0x10, .done, [0x00, 0x00, 0x00, 0x00, 0x00, 0x7A, 0x08, 0x00, 0x04, 0xB7]⟩] := by decide +kernel

/-- 01 section 1.11: the drop at displayed weight 29,413 has W = 29,420 and a line of 1,820 kg. -/
theorem test_drop_capture :
    let t := after (.sampleEvent 0 29413 0) (weighing 0 0x11 (.drop 1207 4 none)
      ((yard { loaded with pending := some 0, seller := some 20316 } (at' 10 21 52)).setBridge 0 (liveLink config0 29410 2)))
    t.tickets[9]? = some (some dropped) := by decide +kernel

/-- 01 section 1.11: a displayed weight of 31,231 is LOAD_NOT_LESS with W 31,240, and the ticket keeps its weighings. -/
theorem test_load_not_less :
    let t := after (.sampleEvent 0 31231 0) (weighing 0 0x11 (.drop 1207 4 none)
      ((yard { loaded with pending := some 0 } (at' 10 21 52)).setBridge 0 (liveLink config0 31231 2)))
    t.tickets[9]? = some (some loaded) ∧ (t.bridge 0).lastCapture.map (·.outcome) = some .loadNotLess := by decide +kernel

/-- 01 section 1.11: at the deadline console 1 is answered UNSTABLE and the mark is cleared. -/
theorem test_motion_deadline :
    let t := after (.motionDeadline 0) (weighing 0 0x11 (.drop 1207 4 none) (yard { loaded with pending := some 0 } (at' 10 21 55)))
    t.tickets[9]? = some (some loaded) ∧ (t.console 1).answers = [⟨0x11, .unstable, [0x00]⟩] ∧ (t.console 1).busy = false := by decide +kernel

/-- 01 section 1.10: a broken beam holds the steady count at 0, and the beam going CLEAR empties the reference. -/
theorem test_beam :
    let s := (yard loaded (at' 10 14 2)).setBridge 0 { liveLink config0 0 0 with reference := none, entryBeam := .broken }
    let t := after (.sampleEvent 0 30960 0) s
    (t.bridge 0).steady = 0 ∧ (t.bridge 0).reference = some 30960 ∧ ((after (.beamEvent 0 .entry true) t).bridge 0).reference = none := by
  decide +kernel

/-- 01 section 1.10: a difference of 39 is above the band of 20, one of 5 within it. -/
theorem test_steady_count :
    ((after (.sampleEvent 0 31290 0) ((yard loaded (at' 10 14 2)).setBridge 0 (liveLink config0 31251 1))).bridge 0).steady = 0
    ∧ ((after (.sampleEvent 0 31244 0) ((yard loaded (at' 10 14 2)).setBridge 0 (liveLink config0 31249 1))).bridge 0).steady = 2 := by decide +kernel

/-- 01 R10: 2 per cent of 60,000 kg is 1,200 kg. -/
theorem test_zero :
    ((after (.zero 1 [0]) ((yard loaded (at' 10 0 0)).setBridge 0 (liveLink config0 1200 3))).bridge 0).zeroOffset = 1200
    ∧ answer (.zero 1 [0]) 1 ((yard loaded (at' 10 0 0)).setBridge 0 (liveLink config0 1201 3)) = some ⟨0x15, .zeroRange, []⟩ := by decide +kernel

/-- 01 R5, R17: a stale expiry fails the pending weighing STALE; an unstable link holds on to none. -/
theorem test_stale :
    answer (.staleTimerExpiry 0) 1 (weighing 0 0x10 (.gross none none) (yard loaded (at' 10 0 0))) = some ⟨0x10, .stale, [0x00]⟩ := by
  decide +kernel

/-- 11 R200: the last byte of the frame of 31,247 kg is the sample; 7Eh starts a frame; a gap abandons it. -/
theorem test_indicator_bytes :
    let s := (yard loaded (at' 10 0 0)).setBridge 0 { liveLink config0 0 0 with rx := .collecting [0x00, 0x7A, 0x0F, 0x00] }
    ((after (.indicatorReceivedByte 0 0x77) s).bridge 0).latest = some ⟨31247, false⟩
      ∧ ((after (.indicatorReceivedByte 0 0x76) s).bridge 0).latest = some ⟨0, false⟩
      ∧ ((after (.sampleGapTimeout 0) s).bridge 0).rx = .hunting ∧ ((after (.badSampleFrame 0) s).bridge 0).rx = .hunting := by decide +kernel

/-- 02 section 2.10: the drop goes into flight; the ticket's mark names bridge 0. -/
theorem test_weigh_drop :
    let t := after (.weighDrop 1 [0x00, 0x04, 0xB7, 0x00, 0x01, 0x36, 0xFF, 0xFF, 0xFF]) (yard loaded (at' 10 21 40))
    t.tickets[9]? = some (some { loaded with pending := some 0 }) ∧ (t.bridge 0).weighing = some ⟨1, .drop 1207 4 none, 15⟩
      ∧ (t.console 1).busy = true := by decide +kernel

/-- 01 R13: an OPEN-TICKET and a STORE-TARE go into flight; a WEIGH-TARE with an unknown grade code is NOT_FOUND. -/
theorem test_other_weighings :
    let s := yard loaded (at' 10 0 0)
    ((after (.openTicket 1 [0, 0, 0xFF, 0xFF, 0xFF]) s).bridge 0).weighing = some ⟨1, .gross none none, 15⟩
      ∧ ((after (.storeTare 1 [1, 1, 0x41]) s).bridge 1).weighing = some ⟨1, .storeTare (txt "A"), 15⟩
      ∧ answer (.weighTare 1 [0x00, 0x04, 0xB7, 0x00, 0x01, 0x37, 0xFF, 0xFF, 0xFF]) 1 s = some ⟨0x12, .notFound, []⟩ := by decide +kernel

/-! ### Tickets, settlement, tares (02, 03, 04) -/

/-- 04 section 4.7: the TARE capture settles ticket 1,207 with the amount 1,483,487. -/
theorem test_tare_capture :
    let t := after (.sampleEvent 1 14236 0) (weighing 1 0x12 (.tare 1207 11 (some 300)) (yard { dropped with pending := some 1 } (at' 10 30 14)))
    t.tickets[9]? = some (some settled) ∧ t.day.settled = 1 ∧ (t.printer 1).queue.map (·.kind) = [.settleSlip] := by decide +kernel

/-- 04 section 4.7: SET-DEDUCTION of 40 kg on line 1 gives the amount 1,463,570 and keeps the settled time. -/
theorem test_set_deduction :
    let t := after (.setDeduction 1 [0x00, 0x04, 0xB7, 0x01, 0x00, 0x00, 0x28]) (yard settled (at' 10 35 20))
    (entries t.tickets).map (fun x => x.settlement.map fun y => (y.figures.exact, y.figures.amount, y.figures.time))
      = [some (146357000, 1463570, some (at' 10 30 14))] := by decide +kernel

/-- 02 section 2.10: SET-PARTY with a seller keeps the vehicle; it is taken although the ticket is pending. -/
theorem test_set_party :
    (entries (after (.setParty 2 [0x00, 0x04, 0xB7, 0x00, 0x00, 0x4F, 0x5C]) (yard { loaded with pending := some 1 } (at' 10 30 8))).tickets).map
      (fun t => (t.vehicle, t.seller)) = [(some (txt "KT-4471"), some 20316)] := by decide +kernel

/-- 02 section 2.10: VOID-TICKET from a PAY port is NOT_PERMITTED; the OFFICE is refused TICKET_BUSY. -/
theorem test_void_refused :
    let s := yard { loaded with pending := some 0 } (at' 10 21 45)
    answer (.voidTicket 3 [0x00, 0x04, 0xB7]) 3 s = some ⟨0x3A, .notPermitted, []⟩
      ∧ answer (.voidTicket 0 [0x00, 0x04, 0xB7]) 0 s = some ⟨0x3A, .ticketBusy, []⟩ := by decide +kernel

/-- 02 section 2.11: with 999,999, 1 and 2 in use the number after 999,998 is 3. -/
theorem test_numbering_wraps :
    let t := fun n : Nat => some { loaded with number := n }
    { State.reset with tickets := [t 999998, t 999999, t 1, t 2], ticketCounter := 999999 }.newNumber = 3 := by decide +kernel

/-- 02 R44, R45: a query of an unknown ticket; a list of one ticket. -/
theorem test_ticket_queries :
    let s := yard loaded (at' 10 14 10)
    answer (.queryTicket 1 [0x00, 0x04, 0xB6, 0x00]) 1 s = some ⟨0x50, .notFound, []⟩
      ∧ answer (.listTickets 1 [0x01, 0, 0, 0]) 1 s
        = some ⟨0x51, .done, [1, 0x00, 0x04, 0xB7, 0x01, 0xFF, 7] ++ txt "KT-4471" ++ [0xFF, 0xFF, 0xFF, 0xFF, 0x00]⟩ := by decide +kernel

/-- 03 section 3.3: ninety days after 2027-02-02 is 2027-05-03, after 2027-03-12 it is 2027-06-10. -/
theorem test_expiry : addDays ⟨2027, 2, 2⟩ 90 = ⟨2027, 5, 3⟩ ∧ addDays ⟨2027, 3, 12⟩ 90 = ⟨2027, 6, 10⟩ := by decide +kernel

/-- 03 section 3.4: APPLY-STORED-TARE closes a ticket at 9,870 kg with a line of 9,030 kg; from 9,875 kg it is
LOAD_NOT_LESS. -/
theorem test_apply_stored_tare :
    let t : Ticket := { loaded with
      number := 1310, vehicle := some (txt "PQ-5"), lines := [⟨4, 3580, none, none⟩]
      weighings := [⟨.gross, 22480, 0, none⟩, ⟨.drop, 18900, 0, none⟩] }
    let u : Ticket := { t with weighings := [⟨.gross, 22480, 0, none⟩, ⟨.drop, 9875, 0, none⟩] }
    let s := fun t => { yard t (at' 12 0 0) with tares := State.reset.tares.set 63 (some ⟨txt "PQ-5", 9870, 1, ⟨2027, 2, 25⟩⟩) }
    let c : Instr := .applyStoredTare 1 [0x00, 0x05, 0x1E, 0x00, 0x78, 0xFF, 0xFF, 0xFF]
    (entries (after c (s t)).tickets).map (fun x => (x.state, x.lines.map (·.net))) = [(.settled, [3580, 9030])]
      ∧ answer c 1 (s u) = some ⟨0x14, .loadNotLess, []⟩ := by decide +kernel

/-- 03 R48, R51: a second code is DUPLICATE; a grade named by a line is GRADE_IN_USE, and another is removed. -/
theorem test_grades :
    let s := yard dropped (at' 10 33 0)
    answer (.setGrade 0 ([5, 0x01, 0x36] ++ [1, 0x43] ++ [0, 0, 0, 0, 0, 0, 0xFF])) 0 s = some ⟨0x30, .duplicate, []⟩
      ∧ answer (.removeGrade 0 [0x01, 0x36]) 0 s = some ⟨0x31, .gradeInUse, []⟩
      ∧ (after (.removeGrade 0 [0x00, 0x78]) s).gradeDef 11 = none := by decide +kernel

/-- 03 R54, R61, R62: an EMPTY grade; an unknown tare; a validity of 120 days. -/
theorem test_grade_and_tare_queries :
    let s := yard dropped (at' 10 33 0)
    answer (.queryGrade 3 [1, 0, 7]) 3 s = some ⟨0x53, .done, [7, 0x00, 0x00, 0xFF] ++ List.replicate 15 0 ++ [0x00]⟩
      ∧ answer (.queryTare 3 [0, 1, 0x41]) 3 s = some ⟨0x54, .notFound, []⟩
      ∧ answer (.deleteTare 0 [1, 0x41]) 0 s = some ⟨0x32, .notFound, []⟩
      ∧ (after (.setTareValidity 0 [0, 120]) s).tareValidity = 120 := by decide +kernel

/-! ### Payout (05 section 5.9) -/

/-- 05 section 5.9: 48,763 rounds to 48,765 and 7,312 to 7,310; 05 section 5.10: 18,405 at step 10 rounds down. -/
theorem test_cash_amounts : cashAmount 48763 5 = 48765 ∧ cashAmount 7312 5 = 7310 ∧ cashAmount 18405 10 = 18400 := by decide +kernel

/-- 05 section 5.9: an amount above the ceiling is paid by voucher; 02 section 2.10: the second window is refused. -/
theorem test_pay_by_ceiling :
    let s := { yard settled (at' 10 41 30) with tills := ⟨closedTill, closedTill, till2, till2⟩ }
    let t := after (.pay 2 [0x00, 0x04, 0xB7, 0x00]) s
    (entries t.tickets).map (·.state) = [.paid] ∧ (t.till 2).voucherCount = 4 ∧ (t.till 2).cashPaid = 304685
      ∧ answer (.pay 3 [0x00, 0x04, 0xB7, 0x00]) 3 t = some ⟨0x23, .wrongState, []⟩ := by decide +kernel

/-- 05 section 5.9: OPEN-TILL with float 200,000 and LOAD-CASH of 100,000. -/
theorem test_open_and_load :
    let s := after (.openTill 2 [0x00, 0x03, 0x0D, 0x40]) (yard settled (at' 7 30 0))
    (s.till 2).expected = 200000 ∧ ((after (.loadCash 2 [0x00, 0x01, 0x86, 0xA0]) s).till 2).expected = 300000 := by decide +kernel

/-- 05 section 5.9: CLOSE-TILL counted at 95,300 is short by 15. -/
theorem test_close_till :
    let s := { yard settled (at' 17 50 0) with tills := ⟨closedTill, closedTill, till2, closedTill⟩ }
    ((after (.closeTill 2 [0x00, 0x00, 0x01, 0x74, 0x44]) s).till 2).overShort = some (-15)
      ∧ ((after (.forceCloseTill 0 [2]) s).till 2).counted = none
      ∧ (answer (.queryTill 1 [2]) 1 s).map (·.result) = some .done := by decide +kernel

/-- 05 R107, 11 R197: the last close of till 2 follows a FLAG of 01h; a till never closed by a count has FLAG 00h alone. -/
theorem test_query_till :
    let s := yard settled (at' 17 50 0)
    let closed := { s with tills := ⟨closedTill, closedTill, { till2 with isOpen := false, counted := some 95300, overShort := some (-15) }, closedTill⟩ }
    (answer (.queryTill 1 [2]) 1 closed).map (fun a => (a.fields.drop 53).take 12) = some [0x01, 0, 0x00, 0x01, 0x74, 0x44, 0x01, 0, 0, 0, 0, 15]
      ∧ (answer (.queryTill 1 [1]) 1 closed).map (fun a => a.fields.drop 53)
        = some ([0x00] ++ [0x00, 0x01, 0x86, 0xA0, 0x00, 0x03, 0xD0, 0x90, 5] ++ [0]) := by decide +kernel

/-- 05 R86: payout limits. -/
theorem test_payout_limits :
    (after (.setPayoutLimits 0 [0, 0, 0, 100, 0, 0, 0, 0, 25]) (yard settled (at' 9 0 0))).limits = ⟨100, 0, 25⟩ := by decide +kernel

/-! ### Receipts, printers, journal (06, 07, 08) -/

/-- 06 section 6.7: rows 4 and 5 of the voucher follow the header; the whole is 29 lines at width 32, 27 at 40. -/
theorem test_voucher_rows :
    let header := [txt "HARBOUR ROAD METALS", txt "YARD 3 - SOUTH GATE", txt "OPEN MON-SAT 06:00-18:00 EXCEPT HOLIDAYS"].map
      (fun l => l ++ List.replicate (48 - l.length) 0x20) ++ List.replicate 3 (List.replicate 48 0x20)
    let paid : Ticket := { settled with
      state := .paid
      lines := [⟨4, 1820, some 40, some ⟨64250, 5, false, none, 40, 1780, 114365000⟩⟩,
                ⟨11, 15180, none, some ⟨2150, 0, false, none, 0, 15180, 32637000⟩⟩]
      settlement := some ⟨⟨some (at' 10 30 14), 147002000, 1470020, 0, none⟩, none⟩
      payment := some ⟨⟨2, .voucher, none, none, some (at' 10 41 30)⟩, none⟩ }
    let j : Job := ⟨.payVoucher, 2, (yard paid (at' 10 41 30)).snapTicket paid, none, .printing, some 58112, some 0, 0⟩
    let lines := Render.receipt 32 header (some (at' 10 41 31)) 58112 j
    lines.length = 29 ∧ lines[2]? = some (txt "OPEN MON-SAT 06:00-18:00 EXCEPT")
      ∧ lines[4]? = some (txt "No. 00058112    2027-02-25 10:41") ∧ lines[17]? = some (txt "                      11436.5000")
      ∧ (Render.receipt 40 header (some (at' 10 41 31)) 58112 j).length = 27 := by decide +kernel

/-- 06 R113, R114: a line of one character and a cell of 80h, stored as "?". -/
theorem test_header_writes :
    ((after (.setHeaderLine 0 [5, 1, 0x41]) (yard loaded (at' 9 0 0))).header[5]?) = some (0x41 :: List.replicate 47 0x20)
    ∧ ((after (.setHeaderCell 0 [0, 0, 0x80]) (yard loaded (at' 9 0 0))).header[0]?) = some (0x3F :: List.replicate 47 0x20) := by decide +kernel

/-- 06 R125, 02 R35: a COPY of a LOADED ticket, first with no weighing in flight, then pending on bridge 1. -/
theorem test_copy_pending :
    let copied := fun t => (answer (.copy 0 [0x00, 0x04, 0xB7]) 0 (yard t (at' 10 21 45))).map (·.fields)
    copied loaded = some [0x00, 0x04, 0xB7, 0x01, 0xFF, 0xFF, 0xFF, 0xFF, 1]
      ∧ copied { loaded with pending := some 1 } = some [0x00, 0x04, 0xB7, 0x01, 0xFF, 0xFF, 0xFF, 0xFF, 1, 0x01] := by decide +kernel

/-- 06 section 6.8: a COPY of a ticket whose voucher is printing names no original. -/
theorem test_copy : ((after (.copy 0 [0x00, 0x04, 0xB7]) (printing .printing .printing 0)).printer 0).queue.map (fun j => (j.kind, j.copyOf))
    = [(.copy, none)] := by decide +kernel

/-- 07 section 7.11: a start takes the counter's serial and makes the journal entry. -/
theorem test_job_start :
    let s := ({ yard settled (at' 17 50 0) with serialCounter := 58340 }).setPrinter 2
      { releasedPrinter true 32 3 with
        state := .ready, lineTimer := none
        queue := [⟨.tillReport, 2, .till 2 till2 95315, none, .queued, none, none, 0⟩] }
    let t := after (.jobStart 2) s
    t.serialCounter = 58341 ∧ t.openSerials.get 2 = some 58340
      ∧ t.journal = [⟨58340, .tillReport, none, some 2, none, none, 2, .printing, 0⟩] ∧ (t.printer 2).state = .printing := by decide +kernel

/-- 07 section 7.11: the DONE for CUT completes the job; 02 section 2.10: the pay receipt serial becomes 58,112. -/
theorem test_completion :
    let s := { printing .printing .printing 2 with tickets := State.reset.tickets.set 9 (some { settled with
      state := .paid, payment := some ⟨⟨2, .voucher, none, none, none⟩, none⟩ }) }
    let t := after (.statusDone 2) s
    t.day.completed = 1 ∧ t.journal.map (·.outcome) = [.complete, .complete] ∧ (t.printer 2).state = .ready
      ∧ (entries t.tickets).map (fun x => x.payment.bind (·.receiptSerial)) = [some 58112] := by decide +kernel

/-- 07 sections 7.11 and 7.12: first and second expiry, BUSY in LATE, NO_PAPER, and READY to a paused job. -/
theorem test_printer_states :
    ((after (.lineTimerExpiry 2) (printing .printing .printing 1)).printer 2).state = .late
    ∧ ((after (.lineTimerExpiry 2) (printing .late .printing 1)).printer 2).state = .offline
    ∧ ((after (.statusBusy 2) (printing .late .printing 1)).printer 2).state = .printing
    ∧ ((after (.faultByte 2 .noPaper) (printing .printing .printing 1)).printer 2).queue.map (·.state) = [.paused]
    ∧ ((after (.statusReady 2) (printing .offline .paused 1)).printer 2).queue.map (·.restarts) = [1] := by decide +kernel

/-- 07 section 7.12: DISCARD-JOB abandons a paused job, and finds no job while it prints; 07 R144: SET-PRINTER. -/
theorem test_discard :
    (after (.discardJob 2 []) (printing .offline .paused 1)).journal.map (·.outcome) = [.complete, .abandoned]
    ∧ answer (.discardJob 2 []) 2 (printing .printing .printing 1) = some ⟨0x41, .noJob, []⟩
    ∧ ((after (.setPrinter 0 [3, 48, 10]) (yard loaded (at' 9 0 0))).printer 3).width = 48
    ∧ (answer (.queryPrinter 3 [2]) 3 (printing .late .printing 1)).map (·.result) = some .done := by decide +kernel

/-- 08 R165, R166: the newest journal entry, a serial not held, and the totals. -/
theorem test_journal_queries :
    answer (.queryJournal 1 [0, 0, 0, 0, 9]) 1 (printing .printing .printing 0) = some ⟨0x57, .notFound, []⟩
    ∧ (answer (.queryJournal 1 [1, 0, 0, 0, 0]) 1 (printing .printing .printing 0)).map (·.fields.take 5) = some [0x00, 0x00, 0xE3, 0x00, 0x02]
    ∧ (answer (.queryTotals 1 [0, 0]) 1 (yard loaded (at' 9 0 0))).map (·.fields.take 2) = some [0x00, 0x01] := by decide +kernel

/-- 08 section 8.7: a close of business day 412 frees the PAID ticket; an OPEN till refuses it. -/
theorem test_day_close :
    let paid : Ticket := { settled with state := .paid, payment := some ⟨⟨2, .voucher, none, none, none⟩, none⟩ }
    let s := yard paid (at' 18 5 0)
    let t := after (.dayClose 0 []) { s with day := { s.day with businessDay := 412 } }
    t.day.businessDay = 413 ∧ entries t.tickets = []
      ∧ (t.console 0).answers = [⟨0x3B, .done, [0x01, 0x9C, 0x01, 0x9D, 1, 0, 1]⟩]
      ∧ answer (.dayClose 0 []) 0 { s with tills := ⟨till2, till2, till2, till2⟩ } = some ⟨0x3B, .tillsOpen, []⟩ := by decide +kernel

/-! ### Clock, console, supplies (09, 10, 11) -/

/-- 09 section 9.5: carries. -/
theorem test_second_boundary :
    let tick := fun s : Stamp => (after .secondBoundary { State.reset with clock := ⟨s, 0, true⟩ }).clock.now
    tick ⟨⟨2027, 2, 28⟩, ⟨23, 59, 59⟩⟩ = ⟨⟨2027, 3, 1⟩, ⟨0, 0, 0⟩⟩ ∧ tick ⟨⟨2028, 2, 28⟩, ⟨23, 59, 59⟩⟩ = ⟨⟨2028, 2, 29⟩, ⟨0, 0, 0⟩⟩
      ∧ tick ⟨⟨2099, 12, 31⟩, ⟨23, 59, 59⟩⟩ = ⟨⟨2000, 1, 1⟩, ⟨0, 0, 0⟩⟩ := by decide +kernel

/-- 09 section 9.5: alignments by -29, +30 and across the wrap. -/
theorem test_align_minute :
    let align := fun s : Stamp => (after (.alignMinute 0 []) (yard loaded s)).clock.now
    align ⟨⟨2027, 6, 10⟩, ⟨9, 59, 29⟩⟩ = ⟨⟨2027, 6, 10⟩, ⟨9, 59, 0⟩⟩ ∧ align ⟨⟨2027, 6, 10⟩, ⟨9, 59, 30⟩⟩ = ⟨⟨2027, 6, 10⟩, ⟨10, 0, 0⟩⟩
      ∧ align ⟨⟨2099, 12, 31⟩, ⟨23, 59, 45⟩⟩ = ⟨⟨2000, 1, 1⟩, ⟨0, 0, 0⟩⟩ := by decide +kernel

/-- 04 section 4.10: SET-CLOCK 2027-12-30 dates the held ticket 2028-01-02. -/
theorem test_set_clock :
    (entries (after (.setClock 0 [27, 12, 30, 8, 12, 0]) (yard held (at' 9 0 0))).tickets).map
      (fun t => t.settlement.bind (·.figures.release)) = [some ⟨2028, 1, 2⟩] := by decide +kernel

/-- 10 section 10.8: a request while one is in flight is BUSY; ABORT ends it; with none there is nothing to abort. -/
theorem test_abort :
    let s := weighing 1 0x12 (.tare 1207 11 none) (yard { dropped with pending := some 1 } (at' 10 30 5))
    answer (.queryTicket 1 [0x00, 0x04, 0xB7, 0x00]) 1 s = some ⟨0x50, .busy, []⟩
      ∧ ((after (.abort 1 []) s).console 1).answers = [⟨0x12, .aborted, [0x01]⟩, ⟨0x01, .done, []⟩]
      ∧ (after (.abort 1 []) s).tickets[9]? = some (some dropped)
      ∧ answer (.abort 1 []) 1 (yard dropped (at' 10 30 5)) = some ⟨0x01, .nothingToAbort, []⟩ := by decide +kernel

/-- 10 section 10.9: 0Dh is discarded, A6h starts a frame, a length of 0 and a timeout or a break abandon it. -/
theorem test_receiver :
    let s := yard loaded (at' 9 0 0)
    let t := after (.consoleReceivedByte 3 0xA6) s
    after (.consoleReceivedByte 3 0x0D) s = s ∧ (t.console 3).rx = .length
      ∧ after (.consoleReceivedByte 3 0x00) t = s ∧ after (.interByteTimeout 3) t = s ∧ after (.breakCondition 3) t = s := by decide +kernel

/-- 10 R187, R194: BAD_FRAME and BAD_CLASS echo the class byte; a sent answer frees its place. -/
theorem test_bad_frames :
    let s := yard loaded (at' 9 0 0)
    answer (.badFrame 1 0x77) 1 s = some ⟨0x77, .badFrame, []⟩ ∧ answer (.badClass 1 0x77) 1 s = some ⟨0x77, .badClass, []⟩
      ∧ after (.answerTransmitted 1) (after (.badFrame 1 0x77) s) = s := by decide +kernel

/-- 10 R196, 01 R21: QUERY-STATUS names its console first; QUERY-BRIDGE reports Max first. -/
theorem test_status_queries :
    (answer (.queryStatus 2 []) 2 (yard loaded (at' 9 0 0))).map (·.fields.take 8) = some [2, 27, 2, 25, 9, 0, 0, 1]
    ∧ (answer (.queryBridge 2 [1]) 2 (yard loaded (at' 9 0 0))).map (·.fields.take 4) = some [0x00, 0xEA, 0x60, 10]
    ∧ ((after (.setBridge 0 [0, 0x00, 0xEA, 0x60, 20, 1, 5, 2, 15, 0x03, 0xE8, 0]) (yard loaded (at' 9 0 0))).bridge 0).config
      = ⟨60000, 20, 1, 5, 2, 15, 1000, false⟩ := by decide +kernel

/-- 10 R181, R194, 11 R202: CTXD of an OFF port is high, of a port that sends an answer it carries it, and it is high-impedance
in main reset; R190: CBUSY is high while a request is in flight. -/
theorem test_transmit_pins :
    let s := yard loaded (at' 9 0 0)
    (s.setConsole 1 (resetConsole .off)).consoleTransmitPin 1 = .high ∧ (after (.badFrame 1 0x77) s).consoleTransmitPin 1 = .serial
      ∧ (after (.mainReset .resetN) s).consoleTransmitPin 1 = .highZ
      ∧ (after (.openTicket 1 [0, 0, 0xFF, 0xFF, 0xFF]) s).busyPin 1 = .high ∧ s.busyPin 1 = .low
      ∧ (s.setPrinter 3 (releasedPrinter false 40 3)).printerTransmitPin 3 = .high := by decide +kernel

/-- 08 section 8.8: an open receipt becomes INTERRUPTED at the release, the queues are empty and ports UNKNOWN. -/
theorem test_main_reset :
    let t := after (.mainResetRelease resetPins) (after (.mainReset .resetN) (printing .printing .printing 1))
    t.journal.map (·.outcome) = [.complete, .interrupted] ∧ t.day.interrupted = 1 ∧ (t.printer 2).queue = []
      ∧ (t.printer 2).state = .unknown ∧ t.openSerials.get 2 = none := by decide +kernel

/-- 11 R203: a backup power-on reset, and the release after it, leave the part as after reset. -/
theorem test_backup_power_on :
    after (.mainResetRelease resetPins) (after .backupPowerOnReset (printing .printing .printing 1)) = State.reset := by decide +kernel

/-! ### Witnesses: for each obligation with hypotheses, a state and operands that meet them -/

/-- A ticket of the yard that is PAID. -/
def paid : Ticket := { settled with state := .paid, payment := some ⟨⟨2, .voucher, none, none, none⟩, none⟩ }
/-- The yard with the receiver of port 1 in a frame. -/
def inFrame (rx : Receiver) : State :=
  (yard loaded (at' 9 0 0)).setConsole 1 { (yard loaded (at' 9 0 0)).console 1 with rx := rx, interByteTimer := true }
/-- The yard with answers queued at port 1. -/
def answering (n : Nat) (s : State) : State :=
  s.setConsole 1 { s.console 1 with answers := List.replicate n ⟨0x50, .notFound, []⟩, tx := .sending 0 }
/-- The yard with main reset asserted. -/
def asserted : State := { yard loaded (at' 9 0 0) with resetByPin := true }
/-- Bridge 0 about to capture a weighing. -/
def capturing (cls : Byte) (task : WeighTask) (t : Ticket) : State :=
  weighing 0 cls task ((yard t (at' 10 14 9)).setBridge 0 (liveLink config0 31244 2))
/-- A tare entry expired on 2027-02-25. -/
def oldTare : Tare := ⟨txt "OLD", 9000, 0, ⟨2026, 1, 1⟩⟩
/-- Grade 4 with three day totals. -/
def paidGrade : Grade := ⟨some copper, 14, 160000, 10280000000⟩

theorem witness_StepTakesTheFrontCommand : State.reset.pending = [] := rfl

theorem witness_DeafPartsTakeNothing :
    (asserted.inReset = true ∧ (Instr.abort 1 []).actsInReset = false)
    ∧ ((Instr.abort 1 []).receivePort = some 1
        ∧ (((yard loaded (at' 9 0 0)).setConsole 1 (resetConsole .off)).console 1).role = .off)
    ∧ ((Instr.faultByte 3 .noPaper).printerPort = some 3 ∧ (Instr.lineTimerExpiry 3).printerPort = some 3
        ∧ (((yard loaded (at' 9 0 0)).setPrinter 3 (releasedPrinter false 40 3)).printer 3).present = false)
    ∧ (((yard loaded (at' 9 0 0)).setConsole 1 (resetConsole .off)).inReset = false
        ∧ (((yard loaded (at' 9 0 0)).setConsole 1 (resetConsole .off)).console 1).Sound
        ∧ ((yard loaded (at' 9 0 0)).setPrinter 3 (releasedPrinter false 40 3)).inReset = false)
    ∧ (let live := answering 2 (capturing 0x10 (.gross none none) loaded)
       live.inReset = false ∧ (live.console 1).Sound ∧ (live.console 1).role ≠ .off ∧ (live.console 1).inFlight.isSome = true
        ∧ (live.console 1).answers ≠ [] ∧ (live.console 2).Sound ∧ (live.console 2).role ≠ .off ∧ (live.console 2).inFlight = none
        ∧ (live.console 2).answers = [] ∧ (live.printer 1).present = true) := by decide +kernel

theorem witness_FramesNeedRoomAndAnswersFreeIt :
    ((Instr.badFrame 1 0).isFrame = true ∧ (Instr.badFrame 1 0).receivePort = some 1
      ∧ (answering 4 (yard loaded (at' 9 0 0))).hears 1 = true
      ∧ 4 ≤ ((answering 4 (yard loaded (at' 9 0 0))).console 1).spoken
      ∧ 4 ≤ ((answering 3 (capturing 0x10 (.gross none none) loaded)).console 1).spoken)
    ∧ ((answering 2 (yard loaded (at' 9 0 0))).inReset = false
      ∧ ((answering 2 (yard loaded (at' 9 0 0))).console 1).answers = [⟨0x50, .notFound, []⟩, ⟨0x50, .notFound, []⟩]) := by
  decide +kernel

theorem witness_FramesAreExaminedInOrder :
    let s := yard loaded (at' 9 0 0)
    let u := capturing 0x10 (.gross none none) loaded
    (s.hears 1 = true ∧ (s.console 1).spoken < 4 ∧ Decode.namesRequest 0x18 = false)
    ∧ (Decode.requestCommand 0x23 1 [0] = some (.pay 1 [0]) ∧ u.hears 1 = true ∧ (u.console 1).spoken < 4
        ∧ (u.console 1).inFlight.isSome = true)
    ∧ ((s.console 1).inFlight = none ∧ (s.console 1).role ∉ permittedRoles 0x23)
    ∧ (Decode.requestCommand 0x10 1 [2] = some (.openTicket 1 [2]) ∧ (s.console 1).role ∈ permittedRoles 0x10
        ∧ bodyDecodes 0x10 [2] = false) := by decide +kernel

theorem witness_ReceiverCollectsAndAbandonsFrames :
    ((inFrame .idle).hears 1 = true ∧ ((inFrame .idle).console 1).rx = .idle)
    ∧ ((inFrame .length).console 1).rx = .length ∧ ((inFrame (.body 250 [] 250)).console 1).rx = .body 250 [] 250
    ∧ ((inFrame .length).console 1).interByteTimer = true ∧ ((yard loaded (at' 9 0 0)).console 1).interByteTimer = false := by
  decide +kernel

theorem witness_FrameBytesRunTheCommand :
    let s := yard loaded (at' 9 0 0)
    s.hears 3 = true ∧ (s.console 3).rx = .idle ∧ (s.console 3).interByteTimer = false ∧ (List.replicate 249 0x00#8).length ≤ 249 := by
  decide +kernel

/-- The bounds of the bodies, each at its ends: accepted inside, refused one beyond, with a byte missing, and with one left
over. -/
theorem witness_FieldsAndRequestsDecode :
    (255 < 256 ^ 1 ∧ 254 + 1 < 256 ^ 1 ∧ (List.replicate 255 0x41#8).length ≤ 255)
    ∧ (Decode.noFields [] = some () ∧ Decode.noFields [0] = none ∧ Decode.pay (Wire.num 3 1) = none
      ∧ Decode.pay (Wire.num 3 1 ++ [1, 0]) = none ∧ Decode.openTicket [0, 2, 0x41] = none ∧ Decode.openTicket [2, 0, 0, 0, 1] = none)
    ∧ (Decode.queryJournal [1, 9, 9, 9, 9] = some .newest ∧ Decode.queryJournal [1, 9, 9, 9] = none ∧ Decode.queryTotals [1, 0xFF] = some .grand
      ∧ Decode.queryTotals [0, 40] = none ∧ Decode.queryGrade [1, 0, 39] = some (.index 39) ∧ Decode.listTickets [6, 0, 0, 0] = none
      ∧ Decode.setHeaderLine [5, 0] = some ⟨5, []⟩ ∧ Decode.setParty [0, 0, 1, 0, 0xFF, 0xFF, 0xFF] = none)
    ∧ (Decode.pay (Wire.num 3 999999 ++ [1])).isSome = true ∧ Decode.pay (Wire.num 3 1000000 ++ [1]) = none
    ∧ Decode.pay (Wire.num 3 0 ++ [1]) = none ∧ Decode.pay (Wire.num 3 1 ++ [2]) = none
    ∧ Decode.openTill (Wire.num 4 0) = some 0 ∧ Decode.loadCash (Wire.num 4 0) = none ∧ Decode.openTill (Wire.num 4 100000000) = none
    ∧ (Decode.weigh (Wire.num 3 1 ++ [1] ++ Wire.num 2 9999 ++ Wire.optNum 3 (some 200000))).isSome = true
    ∧ Decode.weigh (Wire.num 3 1 ++ [1] ++ Wire.num 2 9999 ++ Wire.optNum 3 (some 200001)) = none
    ∧ (Decode.setBridge ([1] ++ Wire.config ⟨200000, 20, 5, 16, 8, 60, 5000, true⟩)).isSome = true
    ∧ Decode.setBridge ([1] ++ Wire.config ⟨200000, 10, 5, 16, 8, 60, 5000, true⟩) = none
    ∧ (Decode.setGrade (Wire.num 1 39 ++ Wire.num 2 1 ++ Wire.text (txt "ABCDEFGHIJKLMNOP") ++ Wire.num 3 999999 ++ Wire.num 2 500
        ++ Wire.flag true ++ Wire.optNum 1 (some 30))).isSome = true
    ∧ Decode.setGrade (Wire.num 1 40 ++ Wire.num 2 1 ++ Wire.text (txt "A") ++ Wire.num 3 0 ++ Wire.num 2 0
        ++ Wire.flag false ++ Wire.optNum 1 none) = none := by decide +kernel

theorem witness_AbortEndsTheOwnWeighing :
    let s := capturing 0x11 (.drop 1207 4 none) { loaded with pending := some 0 }
    (s.hears 1 = true ∧ (s.console 1).spoken < 4 ∧ (s.console 1).inFlight = some ⟨0x11, 0⟩
      ∧ (s.bridge 0).weighing = some ⟨1, .drop 1207 4 none, 15⟩)
    ∧ ((yard loaded (at' 9 0 0)).hears 1 = true ∧ ((yard loaded (at' 9 0 0)).console 1).spoken < 4
      ∧ ((yard loaded (at' 9 0 0)).console 1).inFlight = none) := by decide +kernel

theorem witness_StatusTillPrinterAndBridgeQueries :
    (yard loaded (at' 9 0 0)).Ready 3 ∧ (answering 3 (yard loaded (at' 9 0 0))).Ready 1 ∧ Decode.portOnly [3] = some 3
      ∧ Decode.portOnly [4] = none ∧ Decode.bridgeOnly [1] = some 1 ∧ Decode.bridgeOnly [2] = none := by decide +kernel

theorem witness_CapturedWeightIsTheNearestMultiple :
    0 < 20 ∧ (capturing 0x10 (.gross none none) loaded).Captures 0 31247 ⟨1, .gross none none, 15⟩ 0x10
      ∧ (31247#24).toInt = 31247 ∧ (0xFE#8).getLsbD 0 = false := by decide +kernel

theorem witness_SamplesUpdateTheLink :
    let s := (yard loaded (at' 9 0 0)).setBridge 0 { liveLink { config0 with divider := 2 } 31247 3 with dividerCount := 0 }
    let u := (yard loaded (at' 9 0 0)).setBridge 0 { liveLink { config0 with divider := 2 } 31247 3 with dividerCount := 1 }
    (s.inReset = false ∧ (0x00#8).getLsbD 0 = false ∧ (s.bridge 0).dividerCount + 1 < (s.bridge 0).config.divider)
    ∧ ((u.bridge 0).config.divider ≤ (u.bridge 0).dividerCount + 1 ∧ (u.bridge 0).weighing = none)
    ∧ ((0x01#8).getLsbD 0 = true ∧ (s.bridge 0).staleTimer.isSome = true) := by decide +kernel

/-- The same for a weighing that is pending at a link not stable yet. -/
theorem witness_SamplesUpdateTheLink_unstable :
    let s := weighing 0 0x10 (.gross none none) ((yard loaded (at' 9 0 0)).setBridge 0 (liveLink config0 31247 1))
    (s.bridge 0).config.divider ≤ (s.bridge 0).dividerCount + 1
      ∧ (((s.bridge 0).sampled 31247).counted 31247).stable = false := by decide +kernel

theorem witness_WeighingEndsWithoutCapture :
    let s := capturing 0x11 (.drop 1207 4 none) { loaded with pending := some 0 }
    s.inReset = false ∧ (s.bridge 0).weighing = some ⟨1, .drop 1207 4 none, 15⟩ ∧ (s.console 1).inFlight = some ⟨0x11, 0⟩
      ∧ (s.bridge 0).link = .live ∧ (s.bridge 0).staleTimer.isSome = true ∧ (0x01#8).getLsbD 0 = true := by decide +kernel

theorem witness_IndicatorBytesAreTheSample :
    (yard loaded (at' 9 0 0)).inReset = false ∧ ((yard loaded (at' 9 0 0)).bridge 0).rx = .hunting ∧ (0x7F#8) ≠ 0x7E#8 := by
  decide +kernel

theorem witness_BeamEventSetsTheBeam : (yard loaded (at' 9 0 0)).inReset = false := by decide +kernel

theorem witness_WeighLinkRequestsAreCheckedInOrder :
    let s := (yard loaded (at' 9 0 0)).setBridge 0 (resetBridge config0 .clear .clear)
    let u := weighing 0 0x10 (.gross none none) (yard loaded (at' 9 0 0))
    (Decode.bridgeOnly [0] = some 0 ∧ s.ReadyAs 1 .weigh ∧ firstFailure (zeroChecks (s.bridge 0)) = some .linkDown)
    ∧ (Decode.setBridge ([0] ++ Wire.config config0) = some ⟨0, config0⟩ ∧ u.ReadyAs 0 .office ∧ (u.bridge 0).weighing.isSome = true)
    ∧ (Decode.openTicket [0, 0, 0xFF, 0xFF, 0xFF] = some ⟨0, none, none⟩
        ∧ firstFailure (openTicketChecks s ⟨0, none, none⟩) = some .linkDown)
    ∧ (Decode.weigh [0x00, 0x04, 0xB6, 0x01, 0x01, 0x36, 0xFF, 0xFF, 0xFF] = some ⟨1206, 1, 310, none⟩
        ∧ firstFailure (weighChecks true s ⟨1206, 1, 310, none⟩) = some .notFound
        ∧ firstFailure (weighChecks false s ⟨1206, 1, 310, none⟩) = some .notFound)
    ∧ (Decode.storeTare [0, 1, 0x41] = some ⟨0, txt "A"⟩ ∧ firstFailure (storeTareChecks s ⟨0, txt "A"⟩) = some .linkDown) := by
  decide +kernel

theorem witness_ZeroAndSetBridge :
    let s := (yard loaded (at' 9 0 0)).setBridge 0 (liveLink config0 1200 3)
    (s.ReadyAs 1 .weigh ∧ firstFailure (zeroChecks (s.bridge 0)) = none ∧ (s.bridge 0).reference = some 1200)
    ∧ (s.ReadyAs 0 .office ∧ (s.bridge 0).weighing = none) := by decide +kernel

theorem witness_WeighingRequestsGoIntoFlight :
    let s := yard loaded (at' 9 0 0)
    s.ReadyAs 1 .weigh ∧ firstFailure (openTicketChecks s ⟨0, none, none⟩) = none
    ∧ Decode.weigh [0x00, 0x04, 0xB7, 0x00, 0x01, 0x36, 0xFF, 0xFF, 0xFF] = some ⟨1207, 0, 310, none⟩
    ∧ s.findTicket 1207 = some (9, loaded) ∧ s.gradeIndex 310 = some 4
    ∧ firstFailure (weighChecks true s ⟨1207, 0, 310, none⟩) = none ∧ firstFailure (weighChecks false s ⟨1207, 0, 310, none⟩) = none
    ∧ firstFailure (storeTareChecks s ⟨0, txt "A"⟩) = none := by decide +kernel

theorem witness_GrossAndDropCaptures :
    (let s := capturing 0x10 (.gross none none) loaded
     s.Captures 0 (31247#24).toInt ⟨1, .gross none none, 15⟩ 0x10 ∧ ((31240 : Nat) : Int) = (s.bridge 0).capturedWeight 31247
      ∧ 20 * (s.bridge 0).config.division ≤ 31240 ∧ 31240 ≤ (s.bridge 0).config.capacity ∧ s.tickets[0]? = some none
      ∧ ∀ j < 0, s.tickets[j]? ≠ some none)
    ∧ (let s := { capturing 0x10 (.gross none none) loaded with tickets := List.replicate 64 (some loaded) }
       s.Captures 0 (31247#24).toInt ⟨1, .gross none none, 15⟩ 0x10 ∧ ((31240 : Nat) : Int) = (s.bridge 0).capturedWeight 31247
        ∧ none ∉ s.tickets)
    ∧ (let t : Ticket := { loaded with pending := some 0, weighings := [⟨.gross, 31260, 0, none⟩] }
       let s := capturing 0x11 (.drop 1207 4 none) t
       s.Captures 0 (31247#24).toInt ⟨1, .drop 1207 4 none, 15⟩ 0x11 ∧ s.findTicket 1207 = some (9, t)
        ∧ t.weighings.getLast? = some ⟨.gross, 31260, 0, none⟩ ∧ 31240 + (s.bridge 0).config.division ≤ 31260) := by decide +kernel

theorem witness_TareCaptureSettlesTheTicket :
    let t : Ticket := { loaded with pending := some 0, weighings := [⟨.gross, 31260, 0, none⟩] }
    let s := capturing 0x12 (.tare 1207 4 none) t
    s.Captures 0 (31247#24).toInt ⟨1, .tare 1207 4 none, 15⟩ 0x12 ∧ s.findTicket 1207 = some (9, t)
      ∧ t.weighings.getLast? = some ⟨.gross, 31260, 0, none⟩ ∧ ((31240 : Nat) : Int) = (s.bridge 0).capturedWeight 31247
      ∧ 31240 ≤ (s.bridge 0).config.capacity ∧ 31240 + (s.bridge 0).config.division ≤ 31260 := by decide +kernel

theorem witness_StoreTareCaptureKeepsTheTare :
    let s := capturing 0x13 (.storeTare (txt "A")) loaded
    let full := { s with tares := List.replicate 96 (some oldTare) }
    let fresh := { s with tares := List.replicate 96 (some { oldTare with stored := ⟨2027, 2, 24⟩ }) }
    (s.Captures 0 (31247#24).toInt ⟨1, .storeTare (txt "A"), 15⟩ 0x13 ∧ ((31240 : Nat) : Int) = (s.bridge 0).capturedWeight 31247)
    ∧ { s with tares := [some ⟨txt "A", 1, 0, ⟨2027, 1, 1⟩⟩] }.findTare (txt "A") = some (0, ⟨txt "A", 1, 0, ⟨2027, 1, 1⟩⟩)
    ∧ (s.findTare (txt "A") = none ∧ s.tares[0]? = some none ∧ ∀ j < 0, s.tares[j]? ≠ some none)
    ∧ (full.findTare (txt "A") = none ∧ none ∉ full.tares ∧ full.tares[0]? = some (some oldTare) ∧ full.tareExpired oldTare = true)
    ∧ (fresh.findTare (txt "A") = none ∧ none ∉ fresh.tares ∧ ∀ old ∈ entries fresh.tares, fresh.tareExpired old = false) := by
  decide +kernel

/-- In a table of equal entries the lowest position is the one to evict. -/
theorem witness_StoreTareCaptureKeepsTheTare_evicts (j : Nat) (other : Tare)
    (h : (List.replicate 96 (some oldTare))[j]? = some (some other)) :
    dateBefore other.stored oldTare.stored = false ∧ (dateBefore oldTare.stored other.stored = true ∨ 0 ≤ j) := by
  have hm := List.eq_of_mem_replicate (List.mem_of_getElem? h)
  obtain rfl : other = oldTare := by simpa using hm
  exact ⟨by decide +kernel, .inr (Nat.zero_le j)⟩

theorem witness_CaptureChecksEndTheWeighing :
    let checks := fun (s : State) (w : Int) => [(decide (((s.bridge 0).config.capacity : Int) < w), ResultCode.overload),
      (decide (w < 20 * (s.bridge 0).config.division), ResultCode.underload)]
    (let s := (capturing 0x10 (.gross none none) loaded).setBridge 0
      { liveLink config0 380 2 with weighing := some ⟨1, .gross none none, 15⟩ }
     s.Captures 0 (380#24).toInt ⟨1, .gross none none, 15⟩ 0x10 ∧ firstFailure (checks s ((s.bridge 0).capturedWeight 380)) = some .underload)
    ∧ (let t : Ticket := { loaded with pending := some 0 }
       let s := capturing 0x11 (.drop 1207 4 none) t
       s.Captures 0 (31247#24).toInt ⟨1, .drop 1207 4 none, 15⟩ 0x11 ∧ s.findTicket 1207 = some (9, t)
        ∧ t.weighings.getLast? = some ⟨.gross, 31240, 0, some (at' 10 14 9)⟩
        ∧ firstFailure [(decide (((s.bridge 0).config.capacity : Int) < 31240), ResultCode.overload), (decide ((31240 : Int) < 0), .underload),
            (decide (((31240 : Nat) : Int) - 31240 < (s.bridge 0).config.division), .loadNotLess)] = some .loadNotLess) := by decide +kernel

theorem witness_LookupsAndNewNumbers :
    (let s := yard loaded (at' 9 0 0)
     s.findTicket 1207 = some (9, loaded) ∧ s.findTicket 1208 = none ∧ s.gradeIndex 310 = some 4 ∧ s.gradeIndex 311 = none
      ∧ s.findTare (txt "A") = none)
    ∧ { yard loaded (at' 9 0 0) with tares := [none, some oldTare] }.findTare (txt "OLD") = some (1, oldTare)
    ∧ (let s := { yard loaded (at' 9 0 0) with tickets := List.replicate 63 (some loaded) ++ [none], ticketCounter := 999999 }
       (entries s.tickets).length ≤ 63 ∧ 1 ≤ s.ticketCounter ∧ s.ticketCounter ≤ 999999) := by decide +kernel

theorem witness_TicketAndTableRequestsAreChecked :
    let s := yard { dropped with pending := some 0 } (at' 9 0 0)
    (Decode.setParty [0x00, 0x04, 0xB6, 0x00, 0x00, 0x00, 0x01] = some ⟨1206, none, some 1⟩ ∧ s.ReadyAs 1 .weigh ∧ s.ReadyAs 2 .pay
      ∧ firstFailure (setPartyChecks s 1206) = some .notFound)
    ∧ (Decode.ticketOnly [0x00, 0x04, 0xB7] = some 1207 ∧ s.ReadyAs 0 .office ∧ firstFailure (voidChecks s 1207) = some .ticketBusy
      ∧ firstFailure (((s.ticket 1206).isNone, .notFound) :: s.jobChecks 0) = some .notFound)
    ∧ (Decode.setDeduction [0x00, 0x04, 0xB7, 0x01, 0xFF, 0xFF, 0xFF] = some ⟨1207, 1, none⟩
      ∧ firstFailure (setDeductionChecks s ⟨1207, 1, none⟩) = some .ticketBusy)
    ∧ (Decode.applyTare [0x00, 0x04, 0xB7, 0x00, 0x78, 0xFF, 0xFF, 0xFF] = some ⟨1207, 120, none⟩
      ∧ firstFailure (applyTareChecks s ⟨1207, 120, none⟩) = some .ticketBusy)
    ∧ (Decode.setGrade ([5, 0x01, 0x36, 1, 0x43] ++ [0, 0, 0, 0, 0, 0, 0xFF]) = some ⟨5, ⟨310, txt "C", 0, 0, false, none⟩⟩
      ∧ s.gradeDef 4 = some copper ∧ copper.code = 310 ∧ 4 ≠ 5)
    ∧ (Decode.removeGrade [0x01, 0x36] = some 310 ∧ s.gradeIndex 310 = some 4
      ∧ ∃ t ∈ entries s.tickets, ∃ l ∈ t.lines, l.grade = 4)
    ∧ (Decode.removeGrade [0x00, 0x01] = some 1 ∧ s.gradeIndex 1 = none)
    ∧ (Decode.deleteTare [1, 0x41] = some (txt "A") ∧ s.findTare (txt "A") = none)
    ∧ (Decode.queryGrade [0, 0, 1] = some (.code 1) ∧ s.Ready 3) ∧ Decode.queryTare [0, 1, 0x41] = some (.exact (txt "A"))
    ∧ (Decode.queryTare [1, 0] = some (.after []) ∧ entries s.tares = [])
    ∧ (Decode.queryTare [1, 3, 0x4F, 0x4C, 0x44] = some (.after (txt "OLD"))
      ∧ ∀ e ∈ entries { s with tares := [none, some oldTare] }.tares, idBefore (txt "OLD") e.vehicle = false) := by decide +kernel

theorem witness_SetPartyAndVoidTicket :
    let s := yard settled (at' 9 0 0)
    Decode.setParty [0x00, 0x04, 0xB7, 0x00, 0x00, 0x00, 0x01] = some ⟨1207, none, some 1⟩ ∧ s.ReadyAs 1 .weigh
      ∧ s.findTicket 1207 = some (9, settled) ∧ settled.state ≠ .paid ∧ settled.state ≠ .void ∧ s.ReadyAs 0 .office
      ∧ firstFailure (voidChecks s 1207) = none := by decide +kernel

theorem witness_FirstSettlementOfATicket :
    (let s := yard loaded (at' 9 0 0)
     let t : Ticket := { dropped with lines := [⟨4, 1820, none, none⟩, ⟨20, 100, some 200000, none⟩] }
     ((s.grades[4]?).bind (·.defn) = some copper ∧ (s.grades[20]?).bind (·.defn) = some alu) ∧ t.lines.map (·.grade) = [4, 20]
      ∧ (copper.restricted = true ↔ copper.holdDays.isSome = true) ∧ (alu.restricted = true ↔ alu.holdDays.isSome = true)
      ∧ ∀ n ∈ alu.holdDays, 1 ≤ n)
    ∧ settled.Sound = true ∧ held.Sound = true ∧ settled.settlement.isSome = true := by decide +kernel

theorem witness_SetDeductionResettlesTheTicket :
    let s := yard settled (at' 9 0 0)
    Decode.setDeduction [0x00, 0x04, 0xB7, 0x02, 0xFF, 0xFF, 0xFF] = some ⟨1207, 2, none⟩ ∧ s.ReadyAs 1 .weigh
      ∧ s.findTicket 1207 = some (9, settled) ∧ firstFailure (setDeductionChecks s ⟨1207, 2, none⟩) = none
      ∧ settled.settlement.isSome = true ∧ ∀ l ∈ settled.lines, l.settlement.isSome = true := by decide +kernel

theorem witness_ListTicketsInNumberOrder :
    Decode.listTickets [5, 0x0F, 0x42, 0x3F] = some ⟨some .void, 999999⟩ ∧ (yard loaded (at' 9 0 0)).Ready 0 := by decide +kernel

theorem witness_RecordQueries :
    let s := { yard settled (at' 9 0 0) with tares := [none, some oldTare] }
    (Decode.queryTicket [0x00, 0x04, 0xB7, 0x02] = some ⟨1207, .lines⟩ ∧ s.Ready 0 ∧ s.findTicket 1207 = some (9, settled)
      ∧ s.findTicket 1206 = none)
    ∧ (Decode.queryGrade [1, 0, 39] = some (.index 39) ∧ s.grades[39]? = some emptyGrade)
    ∧ (Decode.queryGrade [0, 0x01, 0x36] = some (.code 310) ∧ s.gradeIndex 310 = some 4)
    ∧ (Decode.queryTare [0, 3, 0x4F, 0x4C, 0x44] = some (.exact (txt "OLD")) ∧ oldTare ∈ entries s.tares
      ∧ s.findTare (txt "OLD") = some (1, oldTare))
    ∧ (Decode.queryTare [1, 0] = some (.after []) ∧ idBefore [] oldTare.vehicle = true
      ∧ ∀ o ∈ entries s.tares, idBefore [] o.vehicle = true → o = oldTare ∨ idBefore oldTare.vehicle o.vehicle = true)
    ∧ Decode.queryJournal [0, 0x05, 0xF5, 0xE0, 0xFF] = some (.serial 99999999) ∧ Decode.queryTotals [1, 0] = some .grand
    ∧ Decode.queryTotals [0, 39] = some (.day 39) := by decide +kernel

theorem witness_GradeAndTareSettings :
    let s := { yard loaded (at' 9 0 0) with tares := [none, some oldTare] }
    (Decode.setGrade ([39, 0x27, 0x0F, 1, 0x43] ++ [0, 0, 0, 0, 0, 0, 0xFF]) = some ⟨39, ⟨9999, txt "C", 0, 0, false, none⟩⟩
      ∧ s.ReadyAs 0 .office ∧ s.grades[39]? = some emptyGrade ∧ s.gradeIndex 9999 = none)
    ∧ (s.gradeIndex 310 = some 4 ∧ s.grades[4]? = some ⟨some copper, 0, 0, 0⟩ ∧ ∀ t ∈ entries s.tickets, ∀ l ∈ t.lines, l.grade ≠ 4)
    ∧ (∀ b, (s.bridge b).weighing = none)
    ∧ (Decode.deleteTare [3, 0x4F, 0x4C, 0x44] = some (txt "OLD") ∧ s.findTare (txt "OLD") = some (1, oldTare))
    ∧ Decode.setTareValidity [0x01, 0x6D] = some 365 := by decide +kernel

/-- No grade carries the code 9,999 in the yard. -/
theorem witness_GradeAndTareSettings_code (j : Nat) (d : GradeDef) (h : (yard loaded (at' 9 0 0)).gradeDef j = some d)
    (hc : d.code = 9999) : j = 39 := by
  have hall : ∀ g ∈ (yard loaded (at' 9 0 0)).grades, ∀ x ∈ g.defn, x.code ≠ 9999 := by decide +kernel
  obtain ⟨g, hg, hd⟩ := Option.bind_eq_some_iff.1 h
  exact absurd hc (hall g (List.mem_of_getElem? hg) d hd)

theorem witness_ApplyStoredTareClosesTheTicket :
    let e : Tare := ⟨txt "KT-4471", 11360, 1, ⟨2027, 1, 1⟩⟩
    let s := { yard dropped (at' 9 0 0) with tares := [none, some e] }
    Decode.applyTare [0x00, 0x04, 0xB7, 0x00, 0x78, 0xFF, 0xFF, 0xFF] = some ⟨1207, 120, none⟩ ∧ s.ReadyAs 1 .weigh
      ∧ firstFailure (applyTareChecks s ⟨1207, 120, none⟩) = none ∧ s.gradeIndex 120 = some 11 ∧ s.findTicket 1207 = some (9, dropped)
      ∧ dropped.vehicle = some (txt "KT-4471") ∧ s.findTare (txt "KT-4471") = some (1, e)
      ∧ dropped.weighings.getLast? = some ⟨.drop, 29420, 0, some (at' 10 21 52)⟩ := by decide +kernel

/-- The steps 5 and 10 at an exact half. -/
theorem witness_CashAmountIsTheNearestStep :
    0 < 10 ∧ 2 * (18405 % 10) = 10 ∧ cashAmount 18405 10 = 18400 ∧ cashAmount 48763 5 = 48765 ∧ 0 < 100 := by decide +kernel

theorem witness_PayoutRequestsAreCheckedInOrder :
    let s := yard held (at' 9 0 0)
    let u := { s with tills := ⟨till2, till2, till2, till2⟩ }
    (Decode.pay [0x00, 0x00, 0x04, 0x00] = some ⟨4, .cash⟩ ∧ s.ReadyAs 2 .pay ∧ firstFailure (payChecks s 2 ⟨4, .cash⟩) = some .onHold)
    ∧ (Decode.openTill [0, 0, 0, 0] = some 0 ∧ u.ReadyAs 2 .pay ∧ (u.till 2).isOpen = true)
    ∧ (Decode.loadCash [0, 0, 0, 1] = some 1 ∧ (s.till 2).isOpen = false)
    ∧ (Decode.closeTill [0, 0, 0, 0, 0] = some 0 ∧ firstFailure ((!(s.till 2).isOpen, .tillClosed) :: s.jobChecks 2) = some .tillClosed)
    ∧ (Decode.portOnly [3] = some 3 ∧ s.ReadyAs 0 .office ∧ (s.till 3).isOpen = false)
    ∧ firstFailure (dayCloseChecks u 0) = some .tillsOpen := by decide +kernel

theorem witness_PayCarriesOutThePayment :
    let s := { yard settled (at' 10 41 30) with tills := ⟨closedTill, closedTill, till2, closedTill⟩ }
    Decode.pay [0x00, 0x04, 0xB7, 0x00] = some ⟨1207, .cash⟩ ∧ s.ReadyAs 2 .pay ∧ s.findTicket 1207 = some (9, settled)
      ∧ settled.seller = some 20316 ∧ settled.settlement.isSome = true ∧ firstFailure (payChecks s 2 ⟨1207, .cash⟩) = none := by
  decide +kernel

/-- The same where the payment is made in cash. -/
theorem witness_PayCarriesOutThePayment_cash :
    let t : Ticket := { settled with settlement := some ⟨⟨none, 4876300, 48763, 0, none⟩, none⟩ }
    let s := { yard t (at' 10 41 30) with tills := ⟨closedTill, closedTill, till2, closedTill⟩ }
    firstFailure (payChecks s 2 ⟨1207, .cash⟩) = none ∧ paymentReason s .cash 48763 20316 = .cash := by decide +kernel

theorem witness_PaymentChargesSellerAndGrades :
    ([⟨20315, 48765⟩, ⟨31002, 60000⟩].map fun e : SellerEntry => e.seller).Nodup ∧ (31002 : Nat) ≠ 20315
    ∧ (let mine := settled.lines.filter fun l => l.grade == 4
       [emptyGrade, emptyGrade, emptyGrade, emptyGrade, paidGrade][4]? = some paidGrade ∧ mine.length = 1
        ∧ paidGrade.dayLines + mine.length ≤ 999999999999
        ∧ paidGrade.dayKg + (mine.map fun (l : Line) => (l.settlement.map (·.payable)).getD 0).sum ≤ 999999999999
        ∧ paidGrade.dayValue + (mine.map fun (l : Line) => (l.settlement.map (·.value)).getD 0).sum ≤ 999999999999) := by decide +kernel

theorem witness_LimitsAndTills :
    let s := yard settled (at' 9 0 0)
    let u := { s with tills := ⟨till2, till2, till2, till2⟩ }
    (Decode.setPayoutLimits [0, 0, 0, 0, 0x05, 0xF5, 0xE0, 0xFF, 100] = some ⟨0, 99999999, 100⟩ ∧ s.ReadyAs 0 .office)
    ∧ (Decode.openTill [0x05, 0xF5, 0xE0, 0xFF] = some 99999999 ∧ s.ReadyAs 2 .pay ∧ (s.till 2).isOpen = false)
    ∧ (Decode.loadCash [0, 0, 0, 1] = some 1 ∧ u.ReadyAs 2 .pay ∧ (u.till 2).isOpen = true)
    ∧ (Decode.closeTill [0xE8, 0xD4, 0xA5, 0x0F, 0xFF] = some 999999999999 ∧ u.room 2 = true)
    ∧ (Decode.portOnly [0] = some 0 ∧ u.ReadyAs 0 .office ∧ (u.till 0).isOpen = true) := by decide +kernel

theorem witness_HeaderWritesAndCopies :
    let s := yard settled (at' 9 0 0)
    (Decode.setHeaderLine [5, 1, 0x80] = some ⟨5, [0x80]⟩ ∧ s.ReadyAs 0 .office ∧ Decode.setHeaderLine [6, 0] = none)
    ∧ (Decode.setHeaderCell [5, 47, 0x7F] = some ⟨5, 47, 0x7F⟩ ∧ s.header[5]? = some (List.replicate 48 0x20))
    ∧ (Decode.ticketOnly [0x00, 0x04, 0xB7] = some 1207 ∧ s.Ready 3 ∧ s.findTicket 1207 = some (9, settled) ∧ s.room 3 = true)
    ∧ (let t : Ticket := { loaded with pending := some 1 }
       (yard t (at' 9 0 0)).Ready 3 ∧ (yard t (at' 9 0 0)).findTicket 1207 = some (9, t) ∧ (yard t (at' 9 0 0)).room 3 = true) := by
  decide +kernel

theorem witness_RenderedReceiptsFitThePaper :
    48 ∈ [32, 40, 48] ∧ blankHeader.length = 6 ∧ (∀ l ∈ blankHeader, ∀ c ∈ l, 0x20 ≤ c.toNat ∧ c.toNat ≤ 0x7E)
      ∧ stampFits (some (at' 10 41 31)) ∧ (99999999 : Nat) ≤ 99999999 := by decide +kernel

/-- A ticket, a till and a day whose fields lie in their ranges. -/
theorem witness_RenderedReceiptsFitThePaper_snapshots :
    (job .printing 1 0).snapshot.Fits ∧ (Snapshot.till 2 till2 95315).Fits
      ∧ (Snapshot.day firstDay none (List.replicate 40 ⟨4, txt "Copper 2", 14, 160000, 10280000000⟩)).Fits := by
  refine ⟨?_, ?_, ?_⟩
  · show TicketSnap.Fits _
    unfold TicketSnap.Fits
    decide +kernel
  · show Till.Fits _ ∧ _
    unfold Till.Fits
    decide +kernel
  · show DayTotals.Fits _ ∧ _
    unfold DayTotals.Fits
    decide +kernel

/-- A READY port whose head job waits. -/
def starting : State :=
  ({ yard settled (at' 17 50 0) with serialCounter := 99999999 }).setPrinter 2
    { releasedPrinter true 32 3 with
      state := .ready, lineTimer := none, queue := [⟨.tillReport, 2, .till 2 till2 95315, none, .queued, none, none, 0⟩] }

theorem witness_JobStartTakesASerial :
    starting.startsJob (.jobStart 2) = true
      ∧ (starting.printer 2).queue = [⟨.tillReport, 2, .till 2 till2 95315, none, .queued, none, none, 0⟩] := by decide +kernel

theorem witness_AcknowledgedLinesAndCompletion :
    (let s := printing .late .printing 0
     s.printerHears 2 = true ∧ (s.printer 2).state = .late ∧ (s.printer 2).queue = [job .printing 58112 0]
      ∧ (s.printer 2).rendered = some [txt "TILL", txt "2"] ∧ (job .printing 58112 0).nextLine = some 0
      ∧ [txt "TILL", txt "2"][0 + 1]? = some (txt "2"))
    ∧ ((printing .printing .printing 1).printerHears 2 = true ∧ 1 + 1 = [txt "TILL", txt "2"].length)
    ∧ ((job .printing 58112 2).nextLine = some [txt "TILL", txt "2"].length ∧ (job .printing 58112 2).serial = some 58112)
    ∧ (let s := printing .printing .printing 0
       (s.printer 2).state = .printing ∧ (s.printer 2).queue = [job .printing 58112 0] ∧ [txt "TILL", txt "2"] ≠ []) := by decide +kernel

theorem witness_PrinterStatusAndTimeouts :
    (printing .printing .printing 0).printerHears 2 = true ∧ ((printing .printing .printing 0).printer 2).lineTimer.isSome = true
    ∧ ((printing .printing .printing 0).printer 2).state = .printing ∧ ((printing .late .printing 0).printer 2).state = .late
    ∧ (State.reset.printer 2).state = .unknown ∧ (State.reset.printer 2).lineTimer.isSome = true ∧ (starting.printer 2).state = .ready
    ∧ (let s := starting.setPrinter 2 { starting.printer 2 with state := .faulted }
       s.printerHears 2 = true ∧ (s.printer 2).state = .faulted ∧ ∀ j ∈ (s.printer 2).queue.head?, j.state ≠ .paused) := by decide +kernel

theorem witness_PausedJobIsRestarted :
    (printing .late .printing 1).printerHears 2 = true ∧ ((printing .late .printing 1).printer 2).queue = [job .printing 58112 1]
      ∧ (job .printing 58112 1).serial = some 58112 ∧ ((printing .late .printing 1).printer 2).state = .late
      ∧ ((printing .faulted .paused 1).printer 2).state = .faulted ∧ (job .paused 58112 1).state = .paused := by decide +kernel

theorem witness_DiscardJobAndSetPrinter :
    ((printing .printing .printing 0).Ready 2 ∧ ((printing .printing .printing 0).printer 2).queue = [job .printing 58112 0]
      ∧ (job .printing 58112 0).state = .printing)
    ∧ ((starting.printer 2).queue.map (·.state) = [.queued] ∧ starting.Ready 2)
    ∧ (((printing .offline .paused 1).printer 2).queue = [job .paused 58112 1] ∧ (job .paused 58112 1).serial = some 58112)
    ∧ (Decode.setPrinter [3, 48, 10] = some ⟨3, 48, 10⟩ ∧ (starting.console 0).role = .office ∧ starting.Ready 0) := by decide +kernel

theorem witness_DayCloseEndsTheDay :
    (yard paid (at' 18 5 0)).ReadyAs 0 .office ∧ firstFailure (dayCloseChecks (yard paid (at' 18 5 0)) 0) = none := by decide +kernel

theorem witness_SecondBoundaryAndAlignment :
    (let s := { yard loaded (at' 9 0 0) with clock := ⟨⟨⟨2099, 12, 31⟩, ⟨23, 59, 59⟩⟩, 0, true⟩ }
     s.ClockSound ∧ s.ReadyAs 0 .office ∧ s.clock.valid = true)
    ∧ State.reset.ReadyAs 0 .office ∧ State.reset.clock.valid = false := by
  unfold State.ClockSound
  decide +kernel

theorem witness_SetClockDatesTheTickets :
    Decode.setClock [99, 12, 31, 23, 59, 59] = some ⟨⟨2099, 12, 31⟩, ⟨23, 59, 59⟩⟩ ∧ (yard held (at' 9 0 0)).ReadyAs 0 .office := by
  decide +kernel

theorem witness_DaysAreAddedAndCompared : dateValid ⟨2000, 1, 1⟩ = true ∧ dateValid ⟨2099, 12, 31⟩ = true := by decide +kernel

theorem witness_MainResetLosesTheMainDomain : (yard loaded (at' 9 0 0)).inReset = false ∧ asserted.inReset = true := by decide +kernel

theorem witness_ReleaseBringsThePartUp : (yard loaded (at' 9 0 0)).inReset = false ∧ asserted.inReset = true := by decide +kernel

/-! A part at work, for the laws that every step keeps: console 1 has a drop in flight at bridge 0 for ticket 1,207. -/

/-- The part at work, with the second boundary next in the queue. -/
def working : State :=
  { weighing 0 0x11 (.drop 1207 4 none) (yard { loaded with pending := some 0 } (at' 10 21 40)) with pending := [.secondBoundary] }

theorem witness_step : ∃ t, step working = .next t := ⟨_, rfl⟩

theorem witness_StepsKeepConsolesSound : working.ConsolesSound := by
  unfold State.ConsolesSound
  decide +kernel

theorem witness_StepsKeepTablesSettingsAndClock : working.TablesSound ∧ working.SettingsSound ∧ working.ClockSound := by
  refine ⟨?_, ⟨fun b => ⟨?_, ?_⟩, by decide +kernel⟩, by unfold State.ClockSound; decide +kernel⟩
  · unfold State.TablesSound
    decide +kernel
  · revert b
    decide +kernel
  · revert b
    decide +kernel

theorem witness_StepsKeepNumbersAndClaims : working.NumbersSound ∧ working.ClaimsSound := by
  refine ⟨by unfold State.NumbersSound; decide +kernel, ?_, ?_, ?_, ?_⟩
  · have h : ∀ p, ∀ f ∈ (working.console p).inFlight, ∃ x ∈ (working.bridge f.bridge).weighing, x.console = p := by decide +kernel
    exact fun p f hf => h p f hf
  · intro b x hx
    have h : ∀ b, ∀ x ∈ (working.bridge b).weighing, (working.bridge b).link = .live
        ∧ (working.console x.console).inFlight = some ⟨0x11, b⟩
        ∧ ∀ n ∈ x.task.ticket, ∃ t ∈ entries working.tickets, t.number = n ∧ t.pending = some b ∧ t.state = .loaded := by decide +kernel
    exact ⟨(h b x hx).1, ⟨_, (h b x hx).2.1⟩, fun n hn => (h b x hx).2.2 n hn⟩
  · have h : ∀ t ∈ entries working.tickets, ∀ b, t.pending = some b →
        t.state = .loaded ∧ ∃ x ∈ (working.bridge b).weighing, x.task.ticket = some t.number := by decide +kernel
    exact h
  · have h : working.inReset = false := by decide +kernel
    rw [h]
    exact fun h => absurd h (by decide)

theorem witness_StepsKeepTicketsSound : working.TicketsSound := by
  refine ⟨by decide +kernel, fun b x hx hp t ht hn => ?_⟩
  have h : ∀ t ∈ entries working.tickets, t.weighings.length ≤ 6 := by decide +kernel
  exact h t ht

theorem witness_StepsKeepGradesAndTares : working.GradesSound ∧ working.TaresSound := by
  refine ⟨⟨by decide +kernel, by decide +kernel, by decide +kernel, fun b x g hx hg => ?_⟩, by unfold State.TaresSound; decide +kernel⟩
  have h : ∀ b, ∀ x ∈ (working.bridge b).weighing, ∀ g ∈ x.task.grade, (working.gradeDef g).isSome = true := by decide +kernel
  exact h b x hx g hg

/-- The part at work, and a port that prints, meet the law of the receipts. -/
theorem witness_RenderedReceiptsFitThePaper_kept : working.ReceiptsFit ∧ (printing .printing .printing 1).ReceiptsFit := by
  have fits : ∀ s ∈ [working, printing .printing .printing 1],
      (∀ t ∈ entries s.tickets, t = { loaded with pending := some 0 } ∨ t = settled)
      ∧ (∀ b, ∀ x ∈ (s.bridge b).weighing, x.task = .drop 1207 4 none) ∧ (∀ p, s.till p = closedTill) ∧ s.day = firstDay
      ∧ (∀ p, ∀ j ∈ (s.printer p).queue, j = job .printing 58112 1)
      ∧ ∀ p, ∀ lines ∈ (s.printer p).rendered, 1 ≤ lines.length ∧ lines.length ≤ 72 ∧ ∀ l ∈ lines, printedLine 48 l := by decide +kernel
  have ticket1 : ({ loaded with pending := some 0 } : Ticket).Fits := by
    show loaded.Fits
    unfold Ticket.Fits
    decide +kernel
  have ticket2 : settled.Fits := by
    unfold Ticket.Fits
    decide +kernel
  have tills : closedTill.Fits := by
    unfold Till.Fits
    decide +kernel
  have day : firstDay.Fits := by
    unfold DayTotals.Fits
    decide +kernel
  have jobs : (job .printing 58112 1).snapshot.Fits := witness_RenderedReceiptsFitThePaper_snapshots.1
  have all : ∀ s ∈ [working, printing .printing .printing 1], s.ReceiptsFit := by
    intro s hs
    obtain ⟨ht, hx, hk, hd, hj, hr⟩ := fits s hs
    refine ⟨fun t h => ?_, fun b x h => ?_, fun p => ?_, ?_, fun p j h => ?_, hr⟩
    · rcases ht t h with rfl | rfl
      · exact ticket1
      · exact ticket2
    · rw [hx b x h]
      trivial
    · rw [hk p]
      exact tills
    · rw [hd]
      exact day
    · rw [hj p j h]
      exact ⟨jobs, by decide +kernel⟩
  exact ⟨all _ (by simp), all _ (by simp)⟩

/-- The part at work meets every premise of the step that keeps it. -/
theorem witness_RenderedReceiptsFitThePaper_premises :
    working.ReceiptsFit ∧ working.TicketsSound ∧ working.GradesSound ∧ working.TablesSound ∧ working.SettingsSound
      ∧ working.ClockSound ∧ working.NumbersSound ∧ working.ClaimsSound ∧ working.TaresSound ∧ working.JournalSound := by
  obtain ⟨htables, hsettings, hclock⟩ := witness_StepsKeepTablesSettingsAndClock
  obtain ⟨hgrades, htares⟩ := witness_StepsKeepGradesAndTares
  exact ⟨witness_RenderedReceiptsFitThePaper_kept.1, witness_StepsKeepTicketsSound, hgrades, htables, hsettings, hclock,
    witness_StepsKeepNumbersAndClaims.1, witness_StepsKeepNumbersAndClaims.2, htares, by unfold State.JournalSound; decide +kernel⟩

theorem witness_StepsKeepPayoutSound :
    let s := { working with tills := ⟨closedTill, closedTill, till2, closedTill⟩, sellers := [⟨20315, 244685⟩, ⟨31002, 60000⟩] }
    s.PayoutSound ∧ (s.till 2).balanced ∧ (s.till 2).unsaturated := by
  unfold State.PayoutSound Till.balanced Till.unsaturated
  decide +kernel

theorem witness_StepsKeepPrintersSound : (printing .printing .printing 1).PrintersSound ∧ (printing .offline .paused 1).PrintersSound := by
  have h : ∀ s ∈ [printing .printing .printing 1, printing .offline .paused 1], ∀ p,
      (s.printer p).Sound p = true ∧ s.inReset = false ∧ s.openSerials.get p = (s.printer p).headSerial
        ∧ ((s.printer p).lineTimer.isSome = true ↔ (s.printer p).state ≠ .ready ∧ (s.printer p).state ≠ .absent) := by decide +kernel
  have g : ∀ s ∈ [printing .printing .printing 1, printing .offline .paused 1], s.PrintersSound := fun s hs p =>
    ⟨(h s hs p).1, fun _ => (h s hs p).2.2, fun hr => absurd hr (by rw [(h s hs p).2.1]; decide)⟩
  exact ⟨g _ (by simp), g _ (by simp)⟩

/-- A command that starts no job and one that does; a final entry and one in PRINTING. -/
theorem witness_StepsKeepTheJournal :
    (printing .printing .printing 1).JournalSound ∧ (∃ e ∈ (printing .printing .printing 1).journal, e.outcome ≠ .printing)
      ∧ (∃ t, exec (.statusDone 2) (printing .printing .printing 1) = .next t) := by
  refine ⟨by unfold State.JournalSound; decide +kernel, by decide +kernel, _, rfl⟩

theorem witness_EveryStartIsAccountedFor :
    starting.startsJob (.jobStart 2) = true ∧ (printing .printing .printing 1).startsJob (.statusDone 2) = false
      ∧ (after (.jobStart 2) starting).grand = zeroGrand ∧ Instr.jobStart 2 ≠ .backupPowerOnReset := by decide +kernel

/-- The starting part has sound printers. -/
theorem witness_EveryStartIsAccountedFor_sound : starting.PrintersSound := by
  have h : ∀ p, (starting.printer p).Sound p = true ∧ starting.inReset = false
      ∧ starting.openSerials.get p = (starting.printer p).headSerial
      ∧ ((starting.printer p).lineTimer.isSome = true ↔ (starting.printer p).state ≠ .ready ∧ (starting.printer p).state ≠ .absent) := by
    decide +kernel
  exact fun p => ⟨(h p).1, fun _ => (h p).2.2, fun hr => absurd hr (by rw [(h p).2.1]; decide)⟩

end Sys2Proof.Tests
end

section
/-! PROOFS. The requests of the weigh links (01 R10, R13, R20, 02 R28, R31): their refusals, ZERO and SET-BRIDGE, and the
weighings that go into flight. -/

namespace Sys2Proof.Machine

/-! ### What a ready port makes of its block's reply -/

section Ready

variable {α : Type} {cls : Byte} {permitted : Role → Bool} {decode : List Byte → Option α}
  {act : Port → α → State → Reply} {p : Port} {fields : List Byte} {s : State} {role : Role} {r : α}

theorem takeRequest_refused {code : ResultCode} (ready : s.ReadyAs p role) (allowed : permitted role = true)
    (decoded : decode fields = some r) (reply : act p r (s.idleReceiver p) = .refuse code) :
    takeRequest cls permitted decode act p fields s = .next (s.answered p cls code []) := by
  rw [takeRequest_ready ready allowed decoded, reply, Reply.apply_refuse, State.answer_idleReceiver]

theorem takeRequest_done {out : List Byte} {u : State} (ready : s.ReadyAs p role) (allowed : permitted role = true)
    (decoded : decode fields = some r) (reply : act p r (s.idleReceiver p) = .done out (u.idleReceiver p)) :
    takeRequest cls permitted decode act p fields s = .next (u.answered p cls .done out) := by
  rw [takeRequest_ready ready allowed decoded, reply, Reply.apply_done, State.answer_idleReceiver]

theorem takeRequest_flying {b : BridgeId} {u : State} (ready : s.ReadyAs p role) (allowed : permitted role = true)
    (decoded : decode fields = some r) (reply : act p r (s.idleReceiver p) = .flight b (u.idleReceiver p)) :
    takeRequest cls permitted decode act p fields s = .next (u.flying p cls b) := by
  rw [takeRequest_ready ready allowed decoded, reply, Reply.apply_flight, State.beginFlight_idleReceiver]

end Ready

/-! ### The replies of the weigh links -/

theorem zeroReply_refused {p : Port} {b : BridgeId} {s : State} {code : ResultCode}
    (failed : firstFailure (zeroChecks (s.bridge b)) = some code) : zeroReply p b s = .refuse code := by
  rw [zeroReply_eq _ p s b rfl, failed]

/-- 01 R10: ZERO past its checks makes the reference the zero offset. -/
theorem zeroReply_done {p : Port} {b : BridgeId} {s : State} {raw : Int}
    (passed : firstFailure (zeroChecks (s.bridge b)) = none) (reference : (s.bridge b).reference = some raw) :
    zeroReply p b s = .done (Wire.signed raw) (s.setBridge b { s.bridge b with zeroOffset := raw }) := by
  have offset : (s.bridge b).reference.getD 0 = raw := by rw [reference, Option.getD_some]
  rw [zeroReply_eq _ p s b rfl, passed, offset]

theorem setBridgeReply_busy {p : Port} {r : SetBridgeReq} {s : State}
    (busy : (s.bridge r.bridge).weighing.isSome = true) : setBridgeReply p r s = .refuse .bridgeBusy := if_pos busy

/-- 01 R20: SET-BRIDGE at a bridge with no pending weighing. -/
theorem setBridgeReply_done {p : Port} {r : SetBridgeReq} {s : State} (free : (s.bridge r.bridge).weighing = none) :
    setBridgeReply p r s = .done (Wire.config r.config) (s.setBridge r.bridge
      { s.bridge r.bridge with config := r.config, dividerCount := 0, reference := none, steady := 0 }) := by
  simp [setBridgeReply, free]

theorem openTicketReply_refused {p : Port} {r : OpenTicketReq} {s : State} {code : ResultCode}
    (failed : firstFailure (openTicketChecks s r) = some code) : openTicketReply p r s = .refuse code := by
  rw [openTicketReply_eq, failed]

theorem openTicketReply_flight {p : Port} {r : OpenTicketReq} {s : State}
    (passed : firstFailure (openTicketChecks s r) = none) :
    openTicketReply p r s = .flight r.bridge (s.startWeighing r.bridge p (.gross r.vehicle r.seller)) := by
  rw [openTicketReply_eq, passed]

theorem weighReply_refused {drop : Bool} {p : Port} {r : WeighReq} {s : State} {code : ResultCode}
    (failed : firstFailure (weighChecks drop s r) = some code) : weighReply drop p r s = .refuse code := by
  rw [weighReply_eq, failed]

/-- 01 R13, 02 R31: WEIGH-DROP or WEIGH-TARE past its checks marks the ticket of slot `i` and starts its weighing. -/
theorem weighReply_flight {drop : Bool} {p : Port} {r : WeighReq} {s : State} {i g : Nat} {t : Ticket}
    (found : s.findTicket r.ticket = some (i, t)) (grade : s.gradeIndex r.code = some g)
    (passed : firstFailure (weighChecks drop s r) = none) :
    weighReply drop p r s = .flight r.bridge ((s.putTicket i { t with pending := some r.bridge }).startWeighing r.bridge p
      (if drop then .drop r.ticket g r.manual else .tare r.ticket g r.manual)) := by
  rw [weighReply_eq, passed, found, grade]

theorem storeTareReply_refused {p : Port} {r : StoreTareReq} {s : State} {code : ResultCode}
    (failed : firstFailure (storeTareChecks s r) = some code) : storeTareReply p r s = .refuse code := by
  rw [storeTareReply_eq, failed]

theorem storeTareReply_flight {p : Port} {r : StoreTareReq} {s : State}
    (passed : firstFailure (storeTareChecks s r) = none) :
    storeTareReply p r s = .flight r.bridge (s.startWeighing r.bridge p (.storeTare r.vehicle)) := by
  rw [storeTareReply_eq, passed]

/-! ### The obligations -/

/-- Settles O16: each table of checks is its block's reply, and no check reads the console's receiver. -/
theorem weighLinkRequestsAreCheckedInOrder : Obligations.WeighLinkRequestsAreCheckedInOrder := by
  intro p fields s code
  refine ⟨fun b decoded ready failed => ?zero, fun r decoded ready busy => ?setBridge,
    fun r decoded ready failed => ?openTicket, fun r decoded ready => ⟨fun failed => ?drop, fun failed => ?tare⟩,
    fun r decoded ready failed => ?storeTare⟩
  case zero => exact takeRequest_refused ready rfl decoded (zeroReply_refused failed)
  case setBridge => exact takeRequest_refused ready rfl decoded (setBridgeReply_busy busy)
  case openTicket => exact takeRequest_refused ready rfl decoded (openTicketReply_refused failed)
  case drop => exact takeRequest_refused ready rfl decoded (weighReply_refused failed)
  case tare => exact takeRequest_refused ready rfl decoded (weighReply_refused failed)
  case storeTare => exact takeRequest_refused ready rfl decoded (storeTareReply_refused failed)

/-- Settles O17: both replies write one bridge, which the console's receiver is no part of. -/
theorem zeroAndSetBridge : Obligations.ZeroAndSetBridge := by
  refine ⟨fun p fields b raw s decoded ready passed reference => ?zero, fun p fields r s decoded ready free => ?setBridge⟩
  case zero => exact takeRequest_done ready rfl decoded (zeroReply_done passed reference)
  case setBridge => exact takeRequest_done ready rfl decoded (setBridgeReply_done free)

/-- Settles O18: past its checks each weighing request starts its weighing and goes into flight. -/
theorem weighingRequestsGoIntoFlight : Obligations.WeighingRequestsGoIntoFlight := by
  intro p fields s ready
  refine ⟨fun r decoded passed => ?openTicket,
    fun r i t g decoded found grade => ⟨fun passed => ?drop, fun passed => ?tare⟩, fun r decoded passed => ?storeTare⟩
  case openTicket => exact takeRequest_flying ready rfl decoded (openTicketReply_flight passed)
  case drop => exact takeRequest_flying ready rfl decoded (weighReply_flight found grade passed)
  case tare => exact takeRequest_flying ready rfl decoded (weighReply_flight found grade passed)
  case storeTare => exact takeRequest_flying ready rfl decoded (storeTareReply_flight passed)

end Sys2Proof.Machine
end

section
/-! PROOFS. What the events of a weigh link do (01 R3 to R8, R17, 10 R192): beams, samples that capture nothing, and the
weighings that end without a capture. -/

namespace Sys2Proof.Machine

/-! ### Beams (01 R8) -/

theorem Bridge.beamChange_same {br : Bridge} {e : BeamEnd} {x : Beam} (same : br.beamState e = x) :
    br.beamChange e x = br := if_pos same

/-- 01 R8: a beam that changes, field by field. -/
theorem Bridge.beamChange_moved {br : Bridge} {e : BeamEnd} {x : Beam} (moved : br.beamState e ≠ x) :
    br.beamChange e x = { br with
      entryBeam := if e = .entry then x else br.entryBeam
      exitBeam := if e = .exit then x else br.exitBeam
      steady := if br.config.positionCheck ∧ x = .broken then 0 else br.steady
      reference := if br.config.positionCheck ∧ x = .clear then none else br.reference } := by
  unfold Bridge.beamChange
  rw [if_neg moved]
  cases check : br.config.positionCheck <;> cases e <;> cases x <;> simp [Bridge.setBeam, check]

theorem exec_beamEvent {b : BridgeId} {e : BeamEnd} {high : Bool} {s : State} (awake : s.inReset = false) :
    exec (.beamEvent b e high) s = .next (s.setBridge b ((s.bridge b).beamChange e (beamOfLevel high))) := by
  simp [exec, execBeamEvent, awake]

/-- Settles O15, by whether the level is the beam's own. -/
theorem beamEventSetsTheBeam : Obligations.BeamEventSetsTheBeam := by
  intro b which high s awake br old new
  have state : br.beamState which = old := rfl
  have event : exec (.beamEvent b which high) s = .next (s.setBridge b (br.beamChange which new)) := exec_beamEvent awake
  rw [event]
  by_cases same : old = new
  · rw [if_pos same, Bridge.beamChange_same (state.trans same), State.setBridge_bridge]
  · rw [if_neg same, Bridge.beamChange_moved fun h => same (state.symm.trans h)]

/-! ### Updates that the clearing of a mark does not meet -/

theorem State.clearTaskMark_setBridge (s : State) (b : BridgeId) (x : Bridge) (task : WeighTask) :
    (s.setBridge b x).clearTaskMark task = (s.clearTaskMark task).setBridge b x := by
  unfold State.clearTaskMark State.clearMark
  cases task.ticket with
  | none => rfl
  | some n =>
    simp only [State.setBridge_findTicket]
    cases s.findTicket n <;> rfl

theorem State.clearTaskMark_idleReceiver (s : State) (p : Port) (task : WeighTask) :
    (s.idleReceiver p).clearTaskMark task = (s.clearTaskMark task).idleReceiver p := by
  unfold State.clearTaskMark State.clearMark
  cases task.ticket with
  | none => rfl
  | some n =>
    simp only [State.idleReceiver_findTicket]
    cases s.findTicket n <;> rfl

@[simp] theorem State.clearTaskMark_consoles (s : State) (task : WeighTask) :
    (s.clearTaskMark task).consoles = s.consoles := by
  obtain ⟨tickets, h⟩ := s.clearTaskMark_frame task
  rw [h]

@[simp] theorem State.clearTaskMark_console (s : State) (task : WeighTask) (p : Port) :
    (s.clearTaskMark task).console p = s.console p := by
  simp [State.console]

/-! ### ABORT (10 R192) -/

/-- 10 R194: two answers queued one after the other. -/
theorem Console.push_push (c : Console) (a b : Answer) : (c.push a).push b = c.queued [a, b] := by
  unfold Console.push Console.queued
  cases c.tx <;> simp

theorem State.endFlight_flying {s : State} {p : Port} {f : InFlight} (r : ResultCode) (fields : List Byte)
    (flight : (s.console p).inFlight = some f) : s.endFlight p r fields = s.landed p f.cls r fields := by
  rw [State.endFlight_eq, flight]

/-- 10 R192: the answer of the weighing in flight, and after it the answer of the frame just taken. -/
theorem State.landed_answer (s : State) (p : Port) (cls : Byte) (r : ResultCode) (fields : List Byte) (a : Answer) :
    ((s.idleReceiver p).landed p cls r fields).answer p a = { s with
      consoles := s.consoles.set p
        ({ (s.console p).heard with inFlight := none, busy := false }.queued [⟨cls, r, fields⟩, a]) } := by
  have landed : (s.idleReceiver p).landed p cls r fields = (s.idleReceiver p).setConsole p
      ({ (s.idleReceiver p).console p with inFlight := none, busy := false }.push ⟨cls, r, fields⟩) := rfl
  rw [landed, State.answer, State.console_setConsole_self, State.setConsole_setConsole, Console.push_push,
    State.idleReceiver_console_self, State.idleReceiver, State.setConsole_setConsole]
  rfl

/-- ABORT is taken from every role, and with a request in flight too. -/
theorem exec_abort {p : Port} {s : State} (hears : s.hears p = true) (room : (s.console p).spoken < 4) :
    exec (.abort p []) s = .next ((abortReply p () (s.idleReceiver p)).apply 0x01 p (s.idleReceiver p)) := by
  obtain ⟨-, on⟩ := (s.hears_iff p).mp hears
  exact takeRequest_handed hears room (.inr rfl) (by simpa [anyRole, bne_iff_ne] using on) rfl

/-- Settles O9: the weighing is dropped as it stands, then its console's queue takes ABORTED and DONE. -/
theorem abortEndsTheOwnWeighing : Obligations.AbortEndsTheOwnWeighing := by
  intro p s hears room
  have taken : ((s.idleReceiver p).console p).inFlight = (s.console p).inFlight := by
    rw [State.idleReceiver_console_self]; rfl
  rw [exec_abort hears room, abortReply, taken]
  refine ⟨fun f x flight pending => ?aborted, fun idle => ?nothing⟩
  case aborted =>
    have dropped : (s.idleReceiver p).dropWeighing f.bridge =
        ((s.clearTaskMark x.task).setBridge f.bridge { s.bridge f.bridge with weighing := none }).idleReceiver p := by
      rw [State.dropWeighing_eq (s := s.idleReceiver p) pending, State.clearTaskMark_idleReceiver]
      rfl
    have flying : (((s.idleReceiver p).dropWeighing f.bridge).console p).inFlight = some f := by
      rw [dropped, State.idleReceiver_console_self, State.setBridge_console, State.clearTaskMark_console]
      exact flight
    rw [flight, Reply.apply_done, State.endFlight_flying _ _ flying, dropped, State.landed_answer,
      State.setBridge_console, State.clearTaskMark_console, State.setBridge_consoles, State.clearTaskMark_consoles]
  case nothing => rw [idle, Reply.apply_refuse, State.answer_idleReceiver]

/-! ### Samples that capture nothing (01 R3 to R7) -/

theorem exec_sampleEvent {b : BridgeId} {raw : BitVec 24} {status : Byte} {s : State} (awake : s.inReset = false) :
    exec (.sampleEvent b raw status) s = .next (s.sample b raw.toInt (status.getLsbD 0)) := by
  simp [exec, execSampleEvent, awake]

/-- 01 R6: a good sample that the divider does not count. -/
theorem State.sample_uncounted {s : State} {b : BridgeId} {raw : Int}
    (skip : (s.bridge b).dividerCount + 1 < (s.bridge b).config.divider) :
    s.sample b raw false = s.setBridge b { (s.bridge b).sampled raw with dividerCount := (s.bridge b).dividerCount + 1 } := by
  have notYet : ¬ ((s.bridge b).sampled raw).config.divider ≤ ((s.bridge b).sampled raw).dividerCount + 1 :=
    Nat.not_le.mpr skip
  simp only [State.sample, State.setLink_sampled, State.divide, State.bridge_setBridge_self, State.setBridge_setBridge,
    if_neg notYet, Bool.false_eq_true, if_false]
  rfl

/-- 01 R6, R7: a counted sample with no weighing to capture, or at a link that is not stable. -/
theorem State.sample_uncaptured {s : State} {b : BridgeId} {raw : Int}
    (count : (s.bridge b).config.divider ≤ (s.bridge b).dividerCount + 1)
    (keep : (s.bridge b).weighing = none ∨ (((s.bridge b).sampled raw).counted raw).stable = false) :
    s.sample b raw false = s.afterCount b raw := by
  have same : (((s.bridge b).sampled raw).counted raw).weighing = (s.bridge b).weighing := rfl
  rw [State.sample_counted s b raw count]
  simp only [same]
  cases pending : (s.bridge b).weighing with
  | none => rfl
  | some x =>
    have unstable : (((s.bridge b).sampled raw).counted raw).stable = false := keep.resolve_left (by simp [pending])
    simp only [unstable, Bool.false_eq_true, if_false]

/-! ### A link that is lost (01 R5) -/

/-- 01 R5: the link states that end the weighing of a LIVE link, each with the code the console is answered. -/
inductive LossCode : LinkState → ResultCode → Prop where
  | stale : LossCode .down .stale
  | fault : LossCode .fault .scaleFault

/-- 01 R5: bridge `br` with its link gone from LIVE or staying out of it. -/
def Bridge.unlinked (br : Bridge) (l : LinkState) : Bridge :=
  { br with
    link := l
    reference := if br.link = .live then none else br.reference
    steady := if br.link = .live then 0 else br.steady }

/-- 01 R5: a LIVE link that is lost ends its weighing; any other only takes the new state. -/
theorem State.setLink_lost {l : LinkState} {r : ResultCode} (loss : LossCode l r) (s : State) (b : BridgeId) :
    s.setLink b l = if (s.bridge b).link = .live then (s.setBridge b ((s.bridge b).unlinked l)).failWeighing b r
      else s.setBridge b ((s.bridge b).unlinked l) := by
  cases loss <;> cases link : (s.bridge b).link <;> simp [State.setLink, Bridge.unlinked, link]

section Lost

variable {l : LinkState} {r : ResultCode} (loss : LossCode l r) {s : State} {b : BridgeId} {br : Bridge}
include loss

/-- 01 R5: a lost link with no weighing pending. -/
theorem State.setLink_unclaimed (free : br.weighing = none) :
    (s.setBridge b br).setLink b l = s.setBridge b (br.unlinked l) := by
  have still : ((s.setBridge b (br.unlinked l)).bridge b).weighing = none := by
    rw [State.bridge_setBridge_self]; exact free
  rw [State.setLink_lost loss, State.bridge_setBridge_self, State.setBridge_setBridge, State.failWeighing_none r still,
    ite_self]

/-- 01 R5, R17: a LIVE link that is lost while the weighing `x` is pending. -/
theorem State.setLink_claimed {x : Weighing} {cls : Byte} (live : br.link = .live) (pending : br.weighing = some x)
    (flight : (s.console x.console).inFlight = some ⟨cls, b⟩) :
    (s.setBridge b br).setLink b l = ((s.clearTaskMark x.task).setBridge b
      { br with link := l, reference := none, steady := 0, weighing := none }).landed x.console cls r (Wire.bridge b) := by
  have still : ((s.setBridge b (br.unlinked l)).bridge b).weighing = some x := by
    rw [State.bridge_setBridge_self]; exact pending
  rw [State.setLink_lost loss, State.bridge_setBridge_self, if_pos live, State.setBridge_setBridge,
    State.failWeighing_eq r still flight, State.clearTaskMark_setBridge, State.setBridge_setBridge,
    State.bridge_setBridge_self]
  simp only [Bridge.unlinked, live, if_true]

end Lost

/-- 01 R4: the stale timer of a link expires. -/
theorem exec_staleTimerExpiry {b : BridgeId} {s : State} (awake : s.inReset = false)
    (running : (s.bridge b).staleTimer.isSome = true) :
    exec (.staleTimerExpiry b) s = .next ((s.setBridge b { s.bridge b with staleTimer := none }).setLink b .down) := by
  simp [exec, execStaleTimerExpiry, awake, running]

/-- 01 R3, R5: a good frame with the fault flag. -/
theorem exec_faultFrame {b : BridgeId} {raw : BitVec 24} {status : Byte} {s : State} (awake : s.inReset = false)
    (fault : status.getLsbD 0 = true) :
    exec (.sampleEvent b raw status) s = .next ((s.setBridge b { s.bridge b with
      latest := some ⟨raw.toInt, true⟩, staleTimer := some (s.bridge b).config.staleTimeout, rx := .hunting }).setLink b
        .fault) := by
  rw [exec_sampleEvent awake, fault]
  rfl

theorem exec_motionDeadline {b : BridgeId} {s : State} (awake : s.inReset = false) :
    exec (.motionDeadline b) s = .next (s.failWeighing b .unstable) := by
  simp [exec, execMotionDeadline, awake]

/-- Settles O12: the good samples by the divider, the lost links by `setLink_unclaimed`. -/
theorem samplesUpdateTheLink : Obligations.SamplesUpdateTheLink := by
  refine ⟨fun b raw status s awake good => ⟨fun skip => ?uncounted, fun count keep => ?counted⟩,
    fun b raw status s awake free => ⟨fun fault => ?fault, fun running => ?stale, ?deadline⟩,
    fun b s awake => ⟨?bad, ?gap⟩⟩
  case uncounted => rw [exec_sampleEvent awake, good, State.sample_uncounted skip]
  case counted => rw [exec_sampleEvent awake, good, State.sample_uncaptured count keep]
  case fault => rw [exec_faultFrame awake fault, State.setLink_unclaimed .fault (by exact free)]; rfl
  case stale => rw [exec_staleTimerExpiry awake running, State.setLink_unclaimed .stale (by exact free)]; rfl
  case deadline => rw [exec_motionDeadline awake, State.failWeighing_none _ free]
  case bad => simp [exec, execBadSampleFrame, awake]
  case gap => simp [exec, execSampleGapTimeout, awake]

/-- Settles O13: the deadline by `failWeighing_eq`, the lost links by `setLink_claimed`. -/
theorem weighingEndsWithoutCapture : Obligations.WeighingEndsWithoutCapture := by
  intro b x cls s awake pending flight
  refine ⟨?deadline, fun live running => ?stale, fun live raw status fault => ?fault⟩
  case deadline => rw [exec_motionDeadline awake, State.failWeighing_eq _ pending flight]
  case stale => rw [exec_staleTimerExpiry awake running, State.setLink_claimed .stale (by exact live) (by exact pending) flight]
  case fault => rw [exec_faultFrame awake fault, State.setLink_claimed .fault (by exact live) (by exact pending) flight]

end Sys2Proof.Machine
end

section
/-! PROOFS. Captures (01 R11, R14 to R16, 02 R29, R30, R32): the captured weight, what a delivery leaves alone, and the GROSS,
DROP and refused captures. -/

namespace Sys2Proof.Machine

/-! ### The captured weight (01 R11) -/

/-- With `q` the quotient of 2x + d by 2d, the rounded weight d·q lies in x - d/2 < d·q ≤ x + d/2. -/
theorem roundToDivision_bounds {d : Nat} (x : Int) (pos : 0 < d) :
    2 * roundToDivision d x ≤ 2 * x + d ∧ 2 * x < 2 * roundToDivision d x + d := by
  have twice : 0 < 2 * (d : Int) := by omega
  have below := Int.mul_ediv_self_le (x := 2 * x + d) twice.ne'
  have above := Int.lt_mul_ediv_self_add (x := 2 * x + d) twice
  have double : 2 * roundToDivision d x = 2 * d * ((2 * x + d) / (2 * d)) := by rw [roundToDivision, mul_assoc]
  omega

/-! ### A delivery leaves the consoles alone -/

theorem State.offer_consoles (s : State) (p : Port) (job : Job) : (s.offer p job).1.consoles = s.consoles := by
  rw [State.offer_eq]
  split <;> rfl

theorem State.deliverGross_consoles (s : State) (b : BridgeId) (w : Nat) (vehicle : Option Text) (seller : Option Nat) :
    (s.deliverGross b w vehicle seller).state.consoles = s.consoles := by
  unfold State.deliverGross
  cases s.freeSlot <;> rfl

theorem State.deliverTare_consoles (s : State) (b : BridgeId) (w : Nat) (p : Port) (i : Nat) (t : Ticket) (grade : Nat)
    (manual : Option Nat) : (s.deliverTare b w p i t grade manual).state.consoles = s.consoles :=
  State.offer_consoles _ p _

theorem State.deliverStoreTare_consoles (s : State) (b : BridgeId) (w : Nat) (vehicle : Text) :
    (s.deliverStoreTare b w vehicle).state.consoles = s.consoles := by
  unfold State.deliverStoreTare
  cases s.findTare vehicle with
  | some found => rfl
  | none =>
    cases firstEmpty s.tares with
    | some i => rfl
    | none => cases s.evictee <;> rfl

/-- 01 R16: whatever a captured weight is handed to, no console port is touched. -/
theorem State.deliver_consoles (s : State) (b : BridgeId) (w : Int) (x : Weighing) :
    (s.deliver b w x).state.consoles = s.consoles := by
  unfold State.deliver
  cases x.task with
  | gross vehicle seller =>
    dsimp only
    split
    · rfl
    · exact s.deliverGross_consoles b w.toNat vehicle seller
  | drop n grade manual =>
    dsimp only
    split
    · rfl
    · split <;> rfl
  | tare n grade manual =>
    dsimp only
    split
    · rfl
    · split
      · rfl
      · exact s.deliverTare_consoles b w.toNat x.console _ _ grade manual
  | storeTare vehicle =>
    dsimp only
    split
    · rfl
    · exact s.deliverStoreTare_consoles b w.toNat vehicle

/-! ### Captures and their answer (01 R14) -/

@[simp] theorem State.landed_bridge (s : State) (p : Port) (cls : Byte) (r : ResultCode) (fields : List Byte) (b : BridgeId) :
    (s.landed p cls r fields).bridge b = s.bridge b := rfl

theorem State.landed_answers (s : State) (p : Port) (cls : Byte) (r : ResultCode) (fields : List Byte) :
    ((s.landed p cls r fields).console p).answers = (s.console p).answers ++ [⟨cls, r, fields⟩] := by
  simp [State.landed, State.console, Console.queued]

/-- 01 R14: the capture of weight `w` by a delivery that leaves the state `u`, whatever it leaves at bridge `b` itself. -/
theorem exec_capture {s u : State} {b : BridgeId} {raw : BitVec 24} {status : Byte} {x : Weighing} {cls : Byte} {w : Int}
    {code : ResultCode} {ticket : Option Nat} {fields : List Byte} {br : Bridge}
    (capture : s.Captures b raw.toInt x cls) (good : status.getLsbD 0 = false)
    (weight : w = (s.bridge b).capturedWeight raw.toInt)
    (delivered : (s.afterCount b raw.toInt).deliver b w x = ⟨code, ticket, fields, u.setBridge b br⟩) :
    exec (.sampleEvent b raw status) s = .next
      ((u.setBridge b (s.capturedBridge b raw.toInt w x.task.purpose ticket code)).landed x.console cls code
        (Wire.bridge b ++ Wire.signed w ++ fields)) := by
  subst weight
  have consoles : (u.setBridge b br).consoles = s.consoles := by
    have kept := State.deliver_consoles (s.afterCount b raw.toInt) b ((s.bridge b).capturedWeight raw.toInt) x
    rw [delivered] at kept
    exact kept
  rw [execSampleEvent_capture s b raw status x cls capture good _ delivered consoles, State.setBridge_setBridge]

/-- Settles O11: the bounds of the rounding, and the answer and record that follow every delivery. -/
theorem capturedWeightIsTheNearestMultiple : Obligations.CapturedWeightIsTheNearestMultiple := by
  refine ⟨fun d x pos => ⟨⟨_, rfl⟩, ?nearest⟩, fun b raw status x cls s capture good => ?reported⟩
  case nearest =>
    obtain ⟨upper, lower⟩ := roundToDivision_bounds x pos
    rcases abs_cases (roundToDivision d x - x) with ⟨distance, -⟩ | ⟨distance, -⟩ <;> omega
  case reported =>
    intro w
    let d := (s.afterCount b raw.toInt).deliver b w x
    have delivered : (s.afterCount b raw.toInt).deliver b w x =
        ⟨d.code, d.ticket, d.fields, d.state.setBridge b (d.state.bridge b)⟩ := by rw [State.setBridge_bridge]
    refine ⟨_, d.code, d.fields, exec_capture (w := w) capture good rfl delivered, ?record, ?answer⟩
    case record =>
      rw [State.landed_bridge, State.bridge_setBridge_self]
      rfl
    case answer =>
      have kept : d.state.console x.console = s.console x.console :=
        congrArg (·.get x.console) (State.deliver_consoles (s.afterCount b raw.toInt) b w x)
      rw [State.landed_answers, State.setBridge_console, kept]

/-! ### GROSS captures (02 R29, R30) -/

/-- 02 R29: the part with a ticket opened in slot `i` by a GROSS capture of `w` kg at bridge `b`. -/
def State.opened (s : State) (i : Nat) (b : BridgeId) (w : Nat) (vehicle : Option Text) (seller : Option Nat) : State :=
  { s with
    tickets := s.tickets.set i (some
      { number := s.newNumber, state := .loaded, pending := none, vehicle, seller, opened := s.stamp
        weighings := [⟨.gross, w, b, s.stamp⟩], lines := [], settlement := none, payment := none, void := none })
    ticketCounter := nextNumber s.newNumber
    day := { s.day with opened := satAdd s.day.opened 1 } }

/-- 02 R29: a GROSS capture with the lowest FREE slot `i`. -/
theorem State.deliverGross_opens {s : State} {i : Nat} (free : s.freeSlot = some i) (b : BridgeId) (w : Nat)
    (vehicle : Option Text) (seller : Option Nat) : s.deliverGross b w vehicle seller =
      ⟨.done, some s.newNumber, Wire.num 3 s.newNumber, s.opened i b w vehicle seller⟩ := by
  simp only [State.deliverGross, free, State.opened]

/-- 02 R30: a GROSS capture with no FREE slot. -/
theorem State.deliverGross_full {s : State} (full : s.freeSlot = none) (b : BridgeId) (w : Nat) (vehicle : Option Text)
    (seller : Option Nat) : s.deliverGross b w vehicle seller = ⟨.tableFull, none, [], s⟩ := by
  simp only [State.deliverGross, full]

/-! ### DROP captures (02 R32) -/

theorem State.findTicket_number {s : State} {n i : Nat} {t : Ticket} (found : s.findTicket n = some (i, t)) : t.number = n := by
  obtain ⟨-, number, -⟩ := findEntry_some found
  exact beq_iff_eq.mp number

theorem Ticket.lastWeight_eq {t : Ticket} {last : WeighEntry} (h : t.weighings.getLast? = some last) :
    t.lastWeight = last.weight := by
  rw [Ticket.lastWeight, h]
  rfl

/-- 02 R32: a DROP capture delivered to ticket `n` of slot `i`. -/
theorem State.deliverDrop_appends {s : State} {n i : Nat} {t : Ticket} {last : WeighEntry}
    (found : s.findTicket n = some (i, t)) (lastOf : t.weighings.getLast? = some last) (b : BridgeId) (w grade : Nat)
    (manual : Option Nat) : s.deliverDrop b w i t grade manual =
      ⟨.done, some n, Wire.num 3 n ++ Wire.num 1 t.weighings.length ++ Wire.num 3 (last.weight - w),
        s.putTicket i { t with
          pending := none, weighings := t.weighings ++ [⟨.drop, w, b, s.stamp⟩]
          lines := t.lines ++ [⟨grade, last.weight - w, manual, none⟩] }⟩ := by
  simp only [State.deliverDrop, Ticket.append, Ticket.lastWeight_eq lastOf, State.findTicket_number found]

/-- Settles O19: the delivery of each capture, made at the counted bridge, then `exec_capture`. -/
theorem grossAndDropCaptures : Obligations.GrossAndDropCaptures := by
  refine ⟨fun b raw status x cls vehicle seller i w s capture good task weight enough fits free lowest => ?opened,
    fun b raw status x cls vehicle seller w s capture good task weight enough fits full => ?full,
    fun b raw status x cls n g manual i t last w s capture good task found lastOf weight fits less => ?dropped⟩
  case opened =>
    have slot : (s.afterCount b raw.toInt).freeSlot = some i := firstEmpty_eq_some s i free lowest
    have delivered := State.deliver_gross s b raw.toInt x vehicle seller w task enough fits
    rw [State.deliverGross_opens slot] at delivered
    rw [exec_capture (u := s.opened i b w vehicle seller) capture good weight delivered, task]
    rfl
  case full =>
    have slot : (s.afterCount b raw.toInt).freeSlot = none := firstEmpty_none.mpr full
    have delivered := State.deliver_gross s b raw.toInt x vehicle seller w task enough fits
    rw [State.deliverGross_full slot] at delivered
    rw [exec_capture capture good weight delivered, task, List.append_nil]
    rfl
  case dropped =>
    have below : w + (s.bridge b).config.division ≤ t.lastWeight := by rwa [Ticket.lastWeight_eq lastOf]
    have delivered := State.deliver_drop s b raw.toInt x n g manual i t w task found fits below
    rw [State.deliverDrop_appends (s := s.afterCount b raw.toInt) found lastOf, State.setBridge_putTicket] at delivered
    rw [exec_capture capture good weight delivered, task]
    simp only [List.append_assoc]
    rfl

/-! ### Captures that fail their checks (01 R15) -/

theorem grossRefusal_eq (config : BridgeConfig) (w : Int) :
    grossRefusal config w = firstFailure [(decide ((config.capacity : Int) < w), .overload),
      (decide (w < 20 * config.division), .underload)] := by
  simp [grossRefusal]

theorem lowerRefusal_eq (config : BridgeConfig) (last : Nat) (w : Int) :
    lowerRefusal config last w = firstFailure [(decide ((config.capacity : Int) < w), .overload),
      (decide (w < 0), .underload), (decide ((last : Int) - w < config.division), .loadNotLess)] := by
  simp [lowerRefusal]

/-- 01 R15: a GROSS or STORE_TARE weighing, which names no ticket, refused. -/
theorem State.deliver_grossRefused {s : State} {b : BridgeId} {w : Int} {x : Weighing} {code : ResultCode}
    (noTicket : x.task.ticket = none) (refused : grossRefusal (s.bridge b).config w = some code) :
    s.deliver b w x = ⟨code, none, [], s⟩ := by
  cases task : x.task with
  | gross vehicle seller => simp only [State.deliver, task, refused]
  | drop n grade manual => simp [task, WeighTask.ticket] at noTicket
  | tare n grade manual => simp [task, WeighTask.ticket] at noTicket
  | storeTare vehicle => simp only [State.deliver, task, refused]

/-- 01 R15: a DROP or TARE weighing of ticket `n` refused: the mark goes, the ticket stays. -/
theorem State.deliver_lowerRefused {s : State} {b : BridgeId} {w : Int} {x : Weighing} {code : ResultCode} {n i : Nat}
    {t : Ticket} (names : x.task.ticket = some n) (found : s.findTicket n = some (i, t))
    (refused : lowerRefusal (s.bridge b).config t.lastWeight w = some code) :
    s.deliver b w x = ⟨code, some n, [], s.putTicket i { t with pending := none }⟩ := by
  cases task : x.task with
  | gross vehicle seller => simp [task, WeighTask.ticket] at names
  | drop m grade manual =>
    obtain rfl : m = n := by simpa [task, WeighTask.ticket] using names
    simp only [State.deliver, task, found, refused]
  | tare m grade manual =>
    obtain rfl : m = n := by simpa [task, WeighTask.ticket] using names
    simp only [State.deliver, task, found, refused]
  | storeTare vehicle => simp [task, WeighTask.ticket] at names

/-- Settles O22: the refused delivery by whether the weighing names a ticket, then `exec_capture`. -/
theorem captureChecksEndTheWeighing : Obligations.CaptureChecksEndTheWeighing := by
  intro b raw status x cls w code s capture good weight
  have config : ((s.afterCount b raw.toInt).bridge b).config = (s.bridge b).config := by
    rw [State.bridge_setBridge_self]; rfl
  refine ⟨fun noTicket failed => ?free, fun n i t last names found lastOf failed => ?named⟩
  case free =>
    rw [← grossRefusal_eq, ← config] at failed
    have delivered := State.deliver_grossRefused noTicket failed
    rw [exec_capture capture good weight delivered, List.append_nil]
  case named =>
    rw [← Ticket.lastWeight_eq lastOf, ← lowerRefusal_eq, ← config] at failed
    have delivered := State.deliver_lowerRefused (s := s.afterCount b raw.toInt) names found failed
    rw [State.setBridge_putTicket] at delivered
    rw [exec_capture capture good weight delivered, List.append_nil]

end Sys2Proof.Machine
end

section
/-! PROOFS. What one command can do to the yard: the tables, settings and clock, the links, the weighings in flight and the
pending marks. Every law that each step keeps is derived from this one account. -/

namespace Sys2Proof.Machine

/-! ### Links in their ranges (01 R1, R2) -/

/-- 01 R1: a bridge configuration in its ranges. -/
def BridgeConfig.InRange (c : BridgeConfig) : Prop :=
  1000 ≤ c.capacity ∧ c.capacity ≤ 200000 ∧ c.division ∈ [1, 2, 5, 10, 20, 50]
    ∧ c.capacity % c.division = 0 ∧ 100 ≤ c.capacity / c.division
    ∧ c.capacity / c.division ≤ 10000 ∧ 1 ≤ c.band ∧ c.band ≤ 5
    ∧ 2 ≤ c.target ∧ c.target ≤ 16 ∧ c.divider ∈ [1, 2, 4, 8]
    ∧ 2 ≤ c.motionTimeout ∧ c.motionTimeout ≤ 60
    ∧ 200 ≤ c.staleTimeout ∧ c.staleTimeout ≤ 5000 ∧ c.staleTimeout % 100 = 0

/-- 01 R2, R5 to R8: the counts, the zero offset and the stability state of a link, as `Bridge.Sound` has them. -/
structure Bridge.Ranged (br : Bridge) : Prop where
  divided : br.dividerCount < br.config.divider
  bounded : br.steady ≤ 16
  zeroed : |br.zeroOffset| ≤ 8000
  unreferenced : br.reference = none → br.steady = 0
  broken : br.config.positionCheck = true → br.entryBeam = .broken ∨ br.exitBeam = .broken → br.steady = 0
  unlinked : br.link ≠ .live → br.steady = 0 ∧ br.reference = none
  timed : br.link ≠ .down ↔ br.staleTimer.isSome = true

theorem Bridge.sound_iff (br : Bridge) : br.Sound ↔ BridgeConfig.InRange br.config ∧ br.Ranged := by
  constructor
  · rintro ⟨h1, h2, h3, h4, h5, h6, h7, h8, h9, h10, h11, h12, h13, h14, h15, h16, h⟩
    obtain ⟨divided, bounded, zeroed, unreferenced, broken, unlinked, timed⟩ := h
    exact ⟨⟨h1, h2, h3, h4, h5, h6, h7, h8, h9, h10, h11, h12, h13, h14, h15, h16⟩,
      ⟨divided, bounded, zeroed, unreferenced, broken, unlinked, timed⟩⟩
  · rintro ⟨⟨h1, h2, h3, h4, h5, h6, h7, h8, h9, h10, h11, h12, h13, h14, h15, h16⟩, h⟩
    exact ⟨h1, h2, h3, h4, h5, h6, h7, h8, h9, h10, h11, h12, h13, h14, h15, h16,
      h.divided, h.bounded, h.zeroed, h.unreferenced, h.broken, h.unlinked, h.timed⟩

theorem BridgeConfig.InRange.division_pos {c : BridgeConfig} (h : BridgeConfig.InRange c) : 1 ≤ c.division := by
  obtain ⟨-, -, division, -⟩ := h
  simp only [List.mem_cons, List.not_mem_nil, or_false] at division
  omega

theorem BridgeConfig.InRange.divider_pos {c : BridgeConfig} (h : BridgeConfig.InRange c) : 1 ≤ c.divider := by
  obtain ⟨-, -, -, -, -, -, -, -, -, -, divider, -⟩ := h
  simp only [List.mem_cons, List.not_mem_nil, or_false] at divider
  omega

/-! ### What leaves the yard alone -/

/-- The link of a bridge moves on, its weighing kept and its ranges too; a LIVE link that is weighing stays LIVE. -/
structure Bridge.Attends (x y : Bridge) : Prop where
  weighing : y.weighing = x.weighing
  live : x.weighing.isSome = true → x.link = .live → y.link = .live
  sound : x.Sound → y.Sound

theorem Bridge.Attends.refl (x : Bridge) : x.Attends x := ⟨rfl, fun _ h => h, fun h => h⟩

theorem Bridge.Attends.trans {x y z : Bridge} (h : x.Attends y) (k : y.Attends z) : x.Attends z where
  weighing := k.weighing.trans h.weighing
  live pending live := k.live (by rw [h.weighing]; exact pending) (h.live pending live)
  sound ok := k.sound (h.sound ok)

/-- Nothing that the laws of the tables, the settings, the clock and the claims speak of changes, but the inner state of a
link outside main reset. -/
structure Quiet (s t : State) : Prop where
  inReset : t.inReset = s.inReset := by rfl
  flights : ∀ p, (t.console p).inFlight = (s.console p).inFlight := by intro p; rfl
  bridges : ∀ b, (s.bridge b).Attends (t.bridge b) := by intro b; exact Bridge.Attends.refl _
  rested : s.inReset = true → t.bridges = s.bridges := by intro h; rfl
  tickets : t.tickets = s.tickets := by rfl
  ticketCounter : t.ticketCounter = s.ticketCounter := by rfl
  grades : t.grades.map (·.defn) = s.grades.map (·.defn) := by rfl
  tares : t.tares = s.tares := by rfl
  tareValidity : t.tareValidity = s.tareValidity := by rfl
  limits : t.limits = s.limits := by rfl
  header : t.header = s.header := by rfl
  paper : ∀ p, (t.printer p).width = (s.printer p).width ∧ (t.printer p).timeout = (s.printer p).timeout := by
    intro p; exact ⟨rfl, rfl⟩
  clock : t.clock = s.clock := by rfl

theorem Quiet.refl (s : State) : Quiet s s := {}

theorem Quiet.trans {s t u : State} (h : Quiet s t) (k : Quiet t u) : Quiet s u where
  inReset := k.inReset.trans h.inReset
  flights p := (k.flights p).trans (h.flights p)
  bridges b := (h.bridges b).trans (k.bridges b)
  rested r := (k.rested (h.inReset.trans r)).trans (h.rested r)
  tickets := k.tickets.trans h.tickets
  ticketCounter := k.ticketCounter.trans h.ticketCounter
  grades := k.grades.trans h.grades
  tares := k.tares.trans h.tares
  tareValidity := k.tareValidity.trans h.tareValidity
  limits := k.limits.trans h.limits
  header := k.header.trans h.header
  paper p := ⟨(k.paper p).1.trans (h.paper p).1, (k.paper p).2.trans (h.paper p).2⟩
  clock := k.clock.trans h.clock

theorem Quiet.setConsole (s : State) {p : Port} {c : Console} (flight : c.inFlight = (s.console p).inFlight) :
    Quiet s (s.setConsole p c) where
  flights q := by
    rw [State.console_setConsole]
    split
    · rw [flight, ‹q = p›]
    · rfl

theorem Quiet.setPrinter (s : State) {p : Port} {x : Printer} (width : x.width = (s.printer p).width)
    (timeout : x.timeout = (s.printer p).timeout) : Quiet s (s.setPrinter p x) where
  paper q := by
    rw [State.printer_setPrinter]
    split
    · rw [width, timeout, ‹q = p›]; exact ⟨rfl, rfl⟩
    · exact ⟨rfl, rfl⟩

theorem Quiet.setBridge {s : State} {b : BridgeId} {x : Bridge} (awake : s.inReset = false)
    (attends : (s.bridge b).Attends x) : Quiet s (s.setBridge b x) where
  bridges c := by
    rw [State.bridge_setBridge]
    split
    · rw [‹c = b›]; exact attends
    · exact Bridge.Attends.refl _
  rested r := by rw [awake] at r; contradiction

theorem Quiet.idleReceiver (s : State) (p : Port) : Quiet s (s.idleReceiver p) := Quiet.setConsole s rfl

theorem Quiet.answer (s : State) (p : Port) (a : Answer) : Quiet s (s.answer p a) := Quiet.setConsole s rfl

theorem Quiet.enqueue (s : State) (p : Port) (job : Job) : Quiet s (s.enqueue p job) := Quiet.setPrinter s rfl rfl

theorem Quiet.offer (s : State) (p : Port) (job : Job) : Quiet s (s.offer p job).1 := by
  rw [State.offer_eq]
  split
  · exact Quiet.enqueue s p job
  · exact Quiet.refl s

theorem Quiet.endReceipt (s : State) (p : Port) (n : Nat) (o : JournalOutcome) : Quiet s (s.endReceipt p n o) := by
  obtain ⟨day, grand, h⟩ := s.endReceipt_frame p n o
  rw [h]
  exact {}

/-! ### The deeds -/

/-- Port `p` with no request in flight. -/
def State.unflown (s : State) (p : Port) : State := s.setConsole p { s.console p with inFlight := none, busy := false }

/-- 01 R13: the mark that a weighing taken at bridge `b` sets on the ticket it names, if any. -/
inductive Marked (s : State) (b : BridgeId) (task : WeighTask) : State → Prop where
  | free : task.ticket = none → Marked s b task s
  | ticket {n i : Nat} {t : Ticket} : task.ticket = some n → s.findTicket n = some (i, t) → t.state = .loaded →
      t.pending = none → (task.purpose = .drop → t.weighings.length ≤ 6) →
      Marked s b task (s.putTicket i { t with pending := some b })

/-- 01 R14 to R18: what the end of the weighing `x` of bridge `b` leaves in the tables: the mark cleared, or the captured
weight taken by the ticket or the tare table. -/
inductive Delivered (s : State) (b : BridgeId) (x : Weighing) : State → Prop where
  | cleared : Delivered s b x (s.clearTaskMark x.task)
  | opened {i w : Nat} (vehicle : Option Text) (seller : Option Nat) : x.task.ticket = none → s.freeSlot = some i →
      w ≤ (s.bridge b).config.capacity → Delivered s b x (s.opened i b w vehicle seller)
  | dropped {n grade i w : Nat} {manual : Option Nat} {t : Ticket} : x.task = .drop n grade manual →
      s.findTicket n = some (i, t) → w ≤ (s.bridge b).config.capacity →
      w + (s.bridge b).config.division ≤ t.lastWeight →
      Delivered s b x (s.putTicket i (t.append ⟨.drop, w, b, s.stamp⟩ grade manual))
  | closed {n grade i w : Nat} {manual : Option Nat} {t : Ticket} : x.task = .tare n grade manual →
      s.findTicket n = some (i, t) → w ≤ (s.bridge b).config.capacity →
      w + (s.bridge b).config.division ≤ t.lastWeight →
      Delivered s b x (s.putTicket i (settleTicket s.grades s.clock (t.append ⟨.tare, w, b, s.stamp⟩ grade manual)))
  | stored {i w : Nat} (vehicle : Text) : x.task.ticket = none → w ≤ (s.bridge b).config.capacity →
      Delivered s b x { s with tares := s.tares.set i (some ⟨vehicle, w, b, s.today⟩) }

/-- What a request on one ticket, or the completion of its receipt, makes of the ticket (02 R39 to R41, 03 R58, 04 R78, 05 R92). -/
inductive Revised (s : State) (t : Ticket) : Ticket → Prop where
  | party (vehicle : Option Text) (seller : Option Nat) : Revised s t { t with vehicle, seller }
  | deducted (k : Nat) (manual : Option Nat) : t.pending = none → t.state = .settled ∨ t.state = .held →
      Revised s t (resettleTicket (t.setManual k manual))
  | voided : t.pending = none → t.state ≠ .paid → t.state ≠ .void → Revised s t (voidedTicket s.stamp t)
  | paid (f : PaymentFigures) : t.state = .settled ∨ t.state = .held → Revised s t (paidTicket t f)
  | recorded (kind : JobKind) (serial : Nat) : Revised s t (recordSerial kind serial t)
  | closed (tare : Tare) (grade : Nat) (manual : Option Nat) : t.state = .loaded → t.pending = none →
      tare ∈ entries s.tares → tare.weight + (s.bridge tare.bridge).config.division ≤ t.lastWeight →
      Revised s t (settleTicket s.grades s.clock
        (t.append ⟨.storedTare, tare.weight, tare.bridge, s.stamp⟩ grade manual))

/-- 11 R202: the main domain is lost or brought up again: nothing in flight, every link as after reset, every mark cleared, the
backup domain kept. -/
structure MainLost (s t : State) : Prop where
  flights : ∀ p, (t.console p).inFlight = none
  bridges : ∀ b, ∃ entryBeam exitBeam, t.bridge b = resetBridge (s.bridge b).config entryBeam exitBeam
  tickets : t.tickets = clearMarks s.tickets
  ticketCounter : t.ticketCounter = s.ticketCounter
  grades : t.grades = s.grades
  tares : t.tares = s.tares
  tareValidity : t.tareValidity = s.tareValidity
  limits : t.limits = s.limits
  header : t.header = s.header
  paper : ∀ p, (t.printer p).width = (s.printer p).width ∧ (t.printer p).timeout = (s.printer p).timeout
  clock : t.clock = s.clock

/-- The one deed of a command, on what `Quiet` keeps. -/
inductive Deed (s : State) : State → Prop where
  | idle : Deed s s
  | claimed {p : Port} {b : BridgeId} {task : WeighTask} {u : State} (cls : Byte) : s.inReset = false →
      (s.console p).inFlight = none → (s.bridge b).link = .live → (s.bridge b).weighing = none → Marked s b task u →
      Deed s ((u.startWeighing b p task).beginFlight p cls b)
  | ended {p : Port} {b : BridgeId} {x : Weighing} {br : Bridge} {u : State} : s.inReset = false →
      (s.bridge b).weighing = some x → (x.console = p ∨ ∃ cls, (s.console p).inFlight = some ⟨cls, b⟩) →
      br.weighing = none → ((s.bridge b).Sound → br.Sound) → Delivered s b x u →
      Deed s ((u.setBridge b br).unflown p)
  | unclaimed {p : Port} {f : InFlight} : (s.console p).inFlight = some f → (s.bridge f.bridge).weighing = none →
      Deed s (s.unflown p)
  | revised {n i : Nat} {t t' : Ticket} : s.findTicket n = some (i, t) → Revised s t t' → Deed s (s.putTicket i t')
  | dated {now : Stamp} : stampValid now = true → Deed s
      { s with clock := ⟨now, 0, true⟩, tickets := s.tickets.map (Option.map fun t => t.dated now.date) }
  | ticked {now : Stamp} : (stampValid s.clock.now = true → stampValid now = true) →
      Deed s { s with clock := { s.clock with now, phase := 0 } }
  | freed : Deed s { s with tickets := freeFinished s.tickets }
  | limited {l : Limits} : l.ceiling ≤ 99999999 → l.cap ≤ 99999999 → l.step ∈ [1, 2, 5, 10, 20, 25, 50, 100] →
      Deed s { s with limits := l }
  | validFor {days : Nat} : 1 ≤ days → days ≤ 365 → Deed s { s with tareValidity := days }
  | headed {header : List Text} : header.length = s.header.length →
      ((∀ l ∈ s.header, l.length = 48 ∧ ∀ c ∈ l, 0x20 ≤ c.toNat ∧ c.toNat ≤ 0x7E) →
        ∀ l ∈ header, l.length = 48 ∧ ∀ c ∈ l, 0x20 ≤ c.toNat ∧ c.toNat ≤ 0x7E) → Deed s { s with header := header }
  | papered {p : Port} {width timeout : Nat} : width ∈ [32, 40, 48] → 1 ≤ timeout → timeout ≤ 10 →
      Deed s (s.setPrinter p { s.printer p with width, timeout })
  | graded {grades : List Grade} : grades.length = s.grades.length → Deed s { s with grades := grades }
  | untared (i : Nat) : Deed s { s with tares := s.tares.set i none }
  | lost {t : State} : MainLost s t → Deed s t
  | defaulted : Deed s
      (if s.inReset then s.assertBy .vcore else s.loseMain.assertBy .vcore).backupDefaults

/-- What a command does: one deed, and before and after it nothing that the laws speak of. -/
def Course (s t : State) : Prop := ∃ s₀ t₀, Quiet s s₀ ∧ Deed s₀ t₀ ∧ Quiet t₀ t

theorem Quiet.course {s t : State} (h : Quiet s t) : Course s t := ⟨s, s, Quiet.refl s, .idle, h⟩

theorem Deed.course {s t : State} (h : Deed s t) : Course s t := ⟨s, t, Quiet.refl s, h, Quiet.refl t⟩

theorem Course.refl (s : State) : Course s s := (Quiet.refl s).course

theorem Course.after {s t u : State} (q : Quiet s t) (h : Course t u) : Course s u := by
  obtain ⟨s₀, t₀, before, deed, rest⟩ := h
  exact ⟨s₀, t₀, q.trans before, deed, rest⟩

theorem Course.quietly {s t u : State} (h : Course s t) (q : Quiet t u) : Course s u := by
  obtain ⟨s₀, t₀, before, deed, rest⟩ := h
  exact ⟨s₀, t₀, before, deed, rest.trans q⟩

/-! ### Requests -/

/-- What a block's reply to a request of port `p` does. -/
def Reply.Courses (s : State) (p : Port) : Reply → Prop
  | .refuse _ => True
  | .done _ t => Course s t
  | .flight b t => ∀ cls, Course s (t.beginFlight p cls b)

theorem takeRequest_course {α : Type} {cls : Byte} {permitted : Role → Bool} {decode : List Byte → Option α}
    {act : Port → α → State → Reply} {p : Port} {fields : List Byte} {s t : State}
    (taken : takeRequest cls permitted decode act p fields s = .next t)
    (reply : ∀ r u, decode fields = some r → u.inReset = false → ((u.console p).inFlight = none ∨ cls = abortClass) →
      (act p r u).Courses u p) : Course s t := by
  have idle := Quiet.idleReceiver s p
  refine takeRequest_keeps (P := Course s) taken (Course.refl s) idle.course
    (fun code _ => (idle.trans (Quiet.answer _ p _)).course) fun r decoded hears _ _ flight => ?_
  obtain ⟨awake, -⟩ := (s.hears_iff p).mp hears
  have courses := reply r (s.idleReceiver p) decoded awake (by rw [idle.flights]; exact flight)
  cases answer : act p r (s.idleReceiver p) with
  | refuse code => exact (idle.trans (Quiet.answer _ p _)).course
  | done out u =>
    rw [answer] at courses
    exact (Course.after idle courses).quietly (Quiet.answer u p _)
  | flight b u =>
    rw [answer] at courses
    exact Course.after idle (courses cls)

end Sys2Proof.Machine
end

section
/-! PROOFS. The course of each command: which deed it does. -/

namespace Sys2Proof.Machine

/-! ### Weighings that end (01 R14 to R18) -/

theorem Quiet.unflown {u v : State} (h : Quiet u v) (p : Port) : Quiet (u.unflown p) (v.unflown p) :=
  { h with
    flights := fun q => by
      simp only [State.unflown, State.console_setConsole]
      split
      · rfl
      · exact h.flights q }

theorem Quiet.setBridge_both {u v : State} (h : Quiet u v) (b : BridgeId) (br : Bridge) :
    Quiet (u.setBridge b br) (v.setBridge b br) :=
  { h with
    bridges := fun c => by
      simp only [State.bridge_setBridge]
      split
      · exact Bridge.Attends.refl br
      · exact h.bridges c
    rested := fun r => by rw [State.setBridge_bridges, State.setBridge_bridges, h.rested r] }

/-- 10 R190: the end of a flight, but for the answer it queues. -/
theorem Quiet.endFlight (s : State) (p : Port) (r : ResultCode) (fields : List Byte) :
    Quiet (s.unflown p) (s.endFlight p r fields) := by
  rw [State.endFlight_eq]
  cases flight : (s.console p).inFlight with
  | none =>
    have grounded : ({ s.console p with inFlight := none, busy := false } : Console).inFlight = (s.console p).inFlight :=
      flight.symm
    exact { (Quiet.refl s : Quiet s s) with flights := fun q => ((Quiet.setConsole s grounded).flights q).symm }
  | some f =>
    refine { flights := fun q => ?_ }
    simp only [State.unflown, State.landed, State.console, State.setConsole, Four.get_set]
    split <;> rfl

/-- The weighing `x` of bridge `b` ended for console `p`, the bridge left as `br`, the tables as `v`. -/
theorem ended_course {s u v : State} {b : BridgeId} {p : Port} {x : Weighing} {br : Bridge} (r : ResultCode)
    (fields : List Byte) (awake : s.inReset = false) (pending : (s.bridge b).weighing = some x)
    (owner : x.console = p ∨ ∃ cls, (s.console p).inFlight = some ⟨cls, b⟩) (free : br.weighing = none)
    (sound : (s.bridge b).Sound → br.Sound) (delivered : Delivered s b x u) (same : Quiet u v) :
    Course s ((v.setBridge b br).endFlight p r fields) :=
  ((Deed.ended awake pending owner free sound delivered).course.quietly ((same.setBridge_both b br).unflown p)).quietly
    (Quiet.endFlight _ p r fields)

/-- A weighing dropped at a bridge whose link has moved on to `br`, and its console answered. -/
theorem dropped_course {s : State} {b : BridgeId} {p : Port} {x : Weighing} {br : Bridge} (r : ResultCode)
    (fields : List Byte) (awake : s.inReset = false) (pending : (s.bridge b).weighing = some x)
    (owner : x.console = p ∨ ∃ cls, (s.console p).inFlight = some ⟨cls, b⟩) (kept : br.weighing = some x)
    (sound : (s.bridge b).Sound → br.Sound) :
    Course s (((s.setBridge b br).dropWeighing b).endFlight p r fields) := by
  have now : ((s.setBridge b br).bridge b).weighing = some x := by rw [State.bridge_setBridge_self]; exact kept
  rw [State.dropWeighing_eq now, State.clearTaskMark_setBridge, State.setBridge_setBridge, State.bridge_setBridge_self]
  exact ended_course r fields awake pending owner rfl sound .cleared (Quiet.refl _)

/-- 01 R17: a weighing that fails, or none to fail, at a bridge whose link has moved on to `br`. -/
theorem failWeighing_course {s : State} {b : BridgeId} {br : Bridge} (r : ResultCode) (awake : s.inReset = false)
    (kept : br.weighing = (s.bridge b).weighing) (sound : (s.bridge b).Sound → br.Sound) :
    Course s ((s.setBridge b br).failWeighing b r) := by
  have now : ((s.setBridge b br).bridge b).weighing = (s.bridge b).weighing := by
    rw [State.bridge_setBridge_self]; exact kept
  cases pending : (s.bridge b).weighing with
  | none =>
    rw [State.failWeighing_none r (now.trans pending)]
    exact (Quiet.setBridge awake ⟨kept, fun h => by simp [pending] at h, sound⟩).course
  | some x =>
    simp only [State.failWeighing, now, pending]
    exact dropped_course r (Wire.bridge b) awake pending (.inl rfl) (kept.trans pending) sound

/-! ### Captures (01 R14 to R16) -/

theorem grossRefusal_none {config : BridgeConfig} {w : Int} (h : grossRefusal config w = none) :
    w.toNat ≤ config.capacity := by
  unfold grossRefusal at h
  split at h
  · cases h
  · omega

theorem lowerRefusal_none {config : BridgeConfig} {last : Nat} {w : Int} (h : lowerRefusal config last w = none) :
    w.toNat ≤ config.capacity ∧ w.toNat + config.division ≤ last := by
  unfold lowerRefusal at h
  split at h
  · cases h
  · split at h
    · cases h
    · split at h
      · cases h
      · omega

/-- 04 R63 to R74: the ticket closed, counted, and its slip offered: only the ticket is of the yard. -/
theorem Quiet.closeTicket (s : State) (i : Nat) (t : Ticket) (p : Port) :
    Quiet (s.putTicket i (settleTicket s.grades s.clock t)) (s.closeTicket i t p).1 := by
  have settled : Quiet (s.putTicket i (settleTicket s.grades s.clock t))
      { s with tickets := s.tickets.set i (some (settleTicket s.grades s.clock t))
               day := { s.day with settled := satAdd s.day.settled 1 } } := {}
  exact settled.trans (Quiet.offer _ p _)

theorem clearTaskMark_free {s : State} {task : WeighTask} (free : task.ticket = none) : s.clearTaskMark task = s := by
  simp [State.clearTaskMark, free]

theorem clearTaskMark_named {s : State} {task : WeighTask} {n : Nat} (names : task.ticket = some n) :
    s.clearTaskMark task = s.clearMark n := by
  simp [State.clearTaskMark, names]

theorem clearMark_found {s : State} {n i : Nat} {t : Ticket} (found : s.findTicket n = some (i, t)) :
    s.clearMark n = s.putTicket i { t with pending := none } := by
  simp [State.clearMark, found]

theorem clearMark_missing {s : State} {n : Nat} (missing : s.findTicket n = none) : s.clearMark n = s := by
  simp [State.clearMark, missing]

theorem deliverGross_delivers {s : State} {b : BridgeId} {x : Weighing} {w : Nat} (vehicle : Option Text)
    (seller : Option Nat) (free : x.task.ticket = none) (fits : w ≤ (s.bridge b).config.capacity) :
    Delivered s b x (s.deliverGross b w vehicle seller).state := by
  cases slot : s.freeSlot with
  | none =>
    rw [State.deliverGross_full slot]
    simpa only [clearTaskMark_free free] using Delivered.cleared (s := s) (b := b) (x := x)
  | some i =>
    rw [State.deliverGross_opens slot]
    exact .opened vehicle seller free slot fits

theorem deliverStoreTare_delivers {s : State} {b : BridgeId} {x : Weighing} {w : Nat} (vehicle : Text)
    (free : x.task.ticket = none) (fits : w ≤ (s.bridge b).config.capacity) :
    Delivered s b x (s.deliverStoreTare b w vehicle).state := by
  have stored (i : Nat) : Delivered s b x { s with tares := s.tares.set i (some ⟨vehicle, w, b, s.today⟩) } :=
    .stored vehicle free fits
  unfold State.deliverStoreTare
  cases s.findTare vehicle with
  | some held => exact stored held.1
  | none =>
    cases firstEmpty s.tares with
    | some i => exact stored i
    | none =>
      cases s.evictee with
      | some old => exact stored old.1
      | none => simpa only [clearTaskMark_free free] using Delivered.cleared (s := s) (b := b) (x := x)

/-- 01 R15, R16: whatever a captured weight meets, the tables are left as one of the deliveries leaves them. -/
theorem deliver_delivers (s : State) (b : BridgeId) (w : Int) (x : Weighing) :
    ∃ u, Delivered s b x u ∧ Quiet u (s.deliver b w x).state := by
  have free (h : x.task.ticket = none) : Delivered s b x s := by
    simpa only [clearTaskMark_free h] using Delivered.cleared (s := s) (b := b) (x := x)
  have missing {n : Nat} (h : x.task.ticket = some n) (lost : s.findTicket n = none) : Delivered s b x s := by
    simpa only [clearTaskMark_named h, clearMark_missing lost] using Delivered.cleared (s := s) (b := b) (x := x)
  have unmarked {n i : Nat} {t : Ticket} (h : x.task.ticket = some n) (found : s.findTicket n = some (i, t)) :
      Delivered s b x (s.putTicket i { t with pending := none }) := by
    simpa only [clearTaskMark_named h, clearMark_found found] using Delivered.cleared (s := s) (b := b) (x := x)
  cases task : x.task with
  | gross vehicle seller =>
    have names : x.task.ticket = none := by rw [task]; rfl
    cases refusal : grossRefusal (s.bridge b).config w with
    | some r => exact ⟨s, free names, by simpa only [State.deliver, task, refusal] using Quiet.refl s⟩
    | none =>
      exact ⟨_, deliverGross_delivers vehicle seller names (grossRefusal_none refusal),
        by simpa only [State.deliver, task, refusal] using Quiet.refl _⟩
  | storeTare vehicle =>
    have names : x.task.ticket = none := by rw [task]; rfl
    cases refusal : grossRefusal (s.bridge b).config w with
    | some r => exact ⟨s, free names, by simpa only [State.deliver, task, refusal] using Quiet.refl s⟩
    | none =>
      exact ⟨_, deliverStoreTare_delivers vehicle names (grossRefusal_none refusal),
        by simpa only [State.deliver, task, refusal] using Quiet.refl _⟩
  | drop n grade manual =>
    have names : x.task.ticket = some n := by rw [task]; rfl
    rcases found : s.findTicket n with _ | ⟨i, t⟩
    · exact ⟨s, missing names found, by simpa only [State.deliver, task, found] using Quiet.refl s⟩
    · cases refusal : lowerRefusal (s.bridge b).config t.lastWeight w with
      | some r => exact ⟨_, unmarked names found, by simpa only [State.deliver, task, found, refusal] using Quiet.refl _⟩
      | none =>
        obtain ⟨fits, lower⟩ := lowerRefusal_none refusal
        refine ⟨_, .dropped task found fits lower, ?_⟩
        simp only [State.deliver, task, found, refusal]
        exact Quiet.refl _
  | tare n grade manual =>
    have names : x.task.ticket = some n := by rw [task]; rfl
    rcases found : s.findTicket n with _ | ⟨i, t⟩
    · exact ⟨s, missing names found, by simpa only [State.deliver, task, found] using Quiet.refl s⟩
    · cases refusal : lowerRefusal (s.bridge b).config t.lastWeight w with
      | some r => exact ⟨_, unmarked names found, by simpa only [State.deliver, task, found, refusal] using Quiet.refl _⟩
      | none =>
        obtain ⟨fits, lower⟩ := lowerRefusal_none refusal
        refine ⟨_, .closed task found fits lower, ?_⟩
        simp only [State.deliver, task, found, refusal]
        exact Quiet.closeTicket s i _ x.console

/-- 01 R14: a capture at a bridge. -/
theorem capture_course {s : State} {b : BridgeId} {x : Weighing} (raw : Int) (awake : s.inReset = false)
    (pending : (s.bridge b).weighing = some x) : Course s (s.capture b x raw) := by
  obtain ⟨u, delivered, same⟩ := deliver_delivers s b ((s.bridge b).capturedWeight raw) x
  exact ended_course _ _ awake pending (.inl rfl) rfl (fun sound => sound) delivered same

/-! ### Samples and links (01 R3 to R8) -/

theorem Bridge.Ranged.sampled {br : Bridge} (raw : Int) (h : br.Ranged) : (br.sampled raw).Ranged where
  divided := h.divided
  bounded := h.bounded
  zeroed := h.zeroed
  unreferenced absent := by
    by_cases live : br.link = .live
    · exact h.unreferenced (by simpa [Bridge.sampled, live] using absent)
    · exact (h.unlinked live).1
  broken := h.broken
  unlinked dead := absurd rfl dead
  timed := by simp [Bridge.sampled]

theorem Bridge.Ranged.counted {br : Bridge} (raw : Int) (inRange : BridgeConfig.InRange br.config) (live : br.link = .live)
    (h : br.Ranged) : (br.counted raw).Ranged where
  divided := inRange.divider_pos
  bounded := by
    unfold Bridge.counted
    cases br.reference with
    | none => simp
    | some r => dsimp only; split <;> [simp; (split <;> omega)]
  zeroed := h.zeroed
  unreferenced absent := by simp [Bridge.counted] at absent
  broken check beam := by
    have both : br.config.positionCheck = true ∧ (br.entryBeam = .broken ∨ br.exitBeam = .broken) := ⟨check, beam⟩
    unfold Bridge.counted
    cases br.reference with
    | none => rfl
    | some r => simp only [both, and_self, if_true]
  unlinked dead := absurd live dead
  timed := h.timed

theorem Bridge.sampled_attends (br : Bridge) (raw : Int) : br.Attends (br.sampled raw) where
  weighing := rfl
  live _ _ := rfl
  sound h := by
    obtain ⟨inRange, ranged⟩ := br.sound_iff.mp h
    exact ((br.sampled raw).sound_iff).mpr ⟨inRange, ranged.sampled raw⟩

theorem Bridge.counted_attends {br : Bridge} (raw : Int) (live : br.link = .live) : br.Attends (br.counted raw) where
  weighing := rfl
  live _ _ := live
  sound h := by
    obtain ⟨inRange, ranged⟩ := br.sound_iff.mp h
    exact ((br.counted raw).sound_iff).mpr ⟨inRange, ranged.counted raw inRange live⟩

theorem Bridge.divided_attends {br : Bridge} (skip : br.dividerCount + 1 < br.config.divider) :
    br.Attends { br with dividerCount := br.dividerCount + 1 } where
  weighing := rfl
  live _ live := live
  sound h := by
    obtain ⟨inRange, ranged⟩ := br.sound_iff.mp h
    exact (Bridge.sound_iff _).mpr ⟨inRange, { ranged with divided := skip }⟩

/-- 01 R5: the ranges of a link that is lost, whose stale timer runs exactly outside DOWN. -/
theorem Bridge.unlinked_sound {br : Bridge} {l : LinkState} (timed : l ≠ .down ↔ br.staleTimer.isSome = true)
    (h : ∃ timer, { br with staleTimer := timer }.Sound) : (br.unlinked l).Sound := by
  obtain ⟨timer, h⟩ := h
  obtain ⟨inRange, ranged⟩ := (Bridge.sound_iff _).mp h
  have rest : (br.unlinked l).steady = 0 ∧ (br.unlinked l).reference = none := by
    by_cases live : br.link = .live
    · simp [Bridge.unlinked, live]
    · simpa [Bridge.unlinked, live] using ranged.unlinked live
  exact (Bridge.sound_iff _).mpr ⟨inRange, ranged.divided, by rw [rest.1]; omega, ranged.zeroed, fun _ => rest.1,
    fun _ _ => rest.1, fun _ => rest, timed⟩

/-- 01 R5: a link lost in a bridge left as `br` by the event that loses it. -/
theorem setLink_lost_course {s : State} {b : BridgeId} {br : Bridge} {l : LinkState} {r : ResultCode} (loss : LossCode l r)
    (awake : s.inReset = false) (weighing : br.weighing = (s.bridge b).weighing) (link : br.link = (s.bridge b).link)
    (sound : (s.bridge b).Sound → (br.unlinked l).Sound) : Course s ((s.setBridge b br).setLink b l) := by
  rw [State.setLink_lost loss, State.bridge_setBridge_self, State.setBridge_setBridge]
  split
  · exact failWeighing_course r awake weighing sound
  · rename_i dead
    have attends : (s.bridge b).Attends (br.unlinked l) :=
      ⟨weighing, fun _ live => absurd (link.trans live) dead, sound⟩
    exact (Quiet.setBridge awake attends).course

theorem sample_good_course (s : State) (b : BridgeId) (raw : Int) (awake : s.inReset = false) :
    Course s (s.sample b raw false) := by
  have sampled := Bridge.sampled_attends (s.bridge b) raw
  by_cases skip : (s.bridge b).dividerCount + 1 < (s.bridge b).config.divider
  · rw [State.sample_uncounted skip]
    exact (Quiet.setBridge awake (sampled.trans (Bridge.divided_attends (by exact skip)))).course
  · have counted : Quiet s (s.afterCount b raw) :=
      Quiet.setBridge awake (sampled.trans (Bridge.counted_attends raw rfl))
    have count := Nat.not_lt.mp skip
    cases pending : (s.bridge b).weighing with
    | none =>
      rw [State.sample_uncaptured count (.inl pending)]
      exact counted.course
    | some x =>
      cases stable : (((s.bridge b).sampled raw).counted raw).stable with
      | false =>
        rw [State.sample_uncaptured count (.inr stable)]
        exact counted.course
      | true =>
        have now : ((s.afterCount b raw).bridge b).weighing = some x := by
          rw [State.bridge_setBridge_self]; exact pending
        have same : (((s.bridge b).sampled raw).counted raw).weighing = some x := pending
        rw [State.sample_counted s b raw count]
        simp only [same, stable, if_true]
        exact Course.after counted (capture_course raw awake now)

theorem sample_course (s : State) (b : BridgeId) (raw : Int) (fault : Bool) (awake : s.inReset = false) :
    Course s (s.sample b raw fault) := by
  cases fault with
  | false => exact sample_good_course s b raw awake
  | true =>
    exact setLink_lost_course .fault awake rfl rfl fun h =>
      Bridge.unlinked_sound (by simp) ⟨_, h⟩

theorem execSampleEvent_course (b : BridgeId) (raw : BitVec 24) (status : Byte) (s t : State)
    (h : execSampleEvent b raw status s = .next t) : Course s t := by
  obtain rfl : (if s.inReset then s else s.sample b raw.toInt (status.getLsbD 0)) = t := by
    simpa [execSampleEvent] using h
  split
  · exact Course.refl s
  · exact sample_course s b _ _ (by simpa using ‹¬ s.inReset = true›)

/-- An event that the part ignores in reset and that only moves a bridge's receiver. -/
theorem receiver_course (s : State) (b : BridgeId) (rx : SampleReceiver) :
    Course s (if s.inReset then s else s.setBridge b { s.bridge b with rx := rx }) := by
  split
  · exact Course.refl s
  · have attends : (s.bridge b).Attends { s.bridge b with rx := rx } := ⟨rfl, fun _ h => h, fun h => h⟩
    exact (Quiet.setBridge (by simpa using ‹¬ s.inReset = true›) attends).course

theorem execBadSampleFrame_course (b : BridgeId) (s t : State) (h : execBadSampleFrame b s = .next t) : Course s t := by
  obtain rfl : (if s.inReset then s else s.setBridge b { s.bridge b with rx := .hunting }) = t := by
    simpa [execBadSampleFrame] using h
  exact receiver_course s b .hunting

theorem execStaleTimerExpiry_course (b : BridgeId) (s t : State) (h : execStaleTimerExpiry b s = .next t) : Course s t := by
  obtain rfl : (if (s.bridge b).staleTimer.isSome && !s.inReset then
      (s.setBridge b { s.bridge b with staleTimer := none }).setLink b .down else s) = t := by
    simpa [execStaleTimerExpiry] using h
  split
  · rename_i running
    simp only [Bool.and_eq_true, Bool.not_eq_true'] at running
    exact setLink_lost_course .stale running.2 rfl rfl fun h => Bridge.unlinked_sound (by simp) ⟨_, h⟩
  · exact Course.refl s

theorem execMotionDeadline_course (b : BridgeId) (s t : State) (h : execMotionDeadline b s = .next t) : Course s t := by
  obtain rfl : (if s.inReset then s else s.failWeighing b .unstable) = t := by simpa [execMotionDeadline] using h
  split
  · exact Course.refl s
  · have failed := failWeighing_course (s := s) (b := b) (br := s.bridge b) .unstable
      (by simpa using ‹¬ s.inReset = true›) rfl (fun h => h)
    rwa [State.setBridge_bridge] at failed

/-- 01 R8: a beam that changes keeps the link in its ranges: outside the position check the beams say nothing, and within it
the steady count is 0 while one is broken. -/
theorem Bridge.beamChange_attends (br : Bridge) (e : BeamEnd) (x : Beam) : br.Attends (br.beamChange e x) := by
  by_cases same : br.beamState e = x
  · rw [Bridge.beamChange_same same]
    exact Bridge.Attends.refl br
  · rw [Bridge.beamChange_moved same]
    refine ⟨rfl, fun _ live => live, fun h => ?_⟩
    obtain ⟨inRange, ranged⟩ := br.sound_iff.mp h
    cases check : br.config.positionCheck with
    | false =>
      simp only [Bool.false_eq_true, false_and, if_false]
      exact (Bridge.sound_iff _).mpr ⟨inRange, { ranged with broken := fun on => by simp [check] at on }⟩
    | true =>
      refine (Bridge.sound_iff _).mpr ⟨inRange, ranged.divided, ?_, ranged.zeroed, ?_, ?_, ?_, ranged.timed⟩
      all_goals dsimp only
      · have := ranged.bounded
        split <;> omega
      · cases x with
        | broken => simp
        | clear =>
          have was : br.entryBeam = .broken ∨ br.exitBeam = .broken := by
            revert same
            cases e <;> cases en : br.entryBeam <;> cases ex : br.exitBeam <;> simp [Bridge.beamState, en, ex]
          intro _
          simpa using ranged.broken check was
      · intro _ beam
        cases x with
        | broken => simp
        | clear =>
          have was : br.entryBeam = .broken ∨ br.exitBeam = .broken := by
            revert beam
            cases e <;> simp <;> tauto
          simpa using ranged.broken check was
      · intro dead
        obtain ⟨still, absent⟩ := ranged.unlinked dead
        rw [still, absent]
        simp

theorem execBeamEvent_course (b : BridgeId) (e : BeamEnd) (high : Bool) (s t : State)
    (h : execBeamEvent b e high s = .next t) : Course s t := by
  obtain rfl : (if s.inReset then s else s.setBridge b ((s.bridge b).beamChange e (beamOfLevel high))) = t := by
    simpa [execBeamEvent] using h
  split
  · exact Course.refl s
  · exact (Quiet.setBridge (by simpa using ‹¬ s.inReset = true›) (Bridge.beamChange_attends _ e _)).course

theorem execIndicatorReceivedByte_course (b : BridgeId) (x : Byte) (s t : State)
    (h : execIndicatorReceivedByte b x s = .next t) : Course s t := by
  unfold execIndicatorReceivedByte at h
  split at h
  · cases h; exact Course.refl s
  · rename_i awake
    have moved (rx : SampleReceiver) : Course s (s.setBridge b { s.bridge b with rx := rx }) := by
      simpa only [if_neg awake] using receiver_course s b rx
    split at h
    · cases h
      split
      · exact moved (.collecting [])
      · exact Course.refl s
    · split at h
      · split at h
        · exact execSampleEvent_course b _ _ s t h
        · exact execBadSampleFrame_course b s t h
      · cases h
        exact moved (.collecting _)

end Sys2Proof.Machine
end

section
/-! PROOFS. The course of each request (11 R198): the deed of its block's reply. -/

namespace Sys2Proof.Machine

/-! ### Console ports (10 R187 to R194) -/

/-- A frame that is no request is answered, or lost for want of a place. -/
theorem takeFrame_answer_course (p : Port) (s : State) (a : Answer) : Course s (takeFrame p s fun u => u.answer p a) :=
  have idle := Quiet.idleReceiver s p
  takeFrame_keeps (P := Course s) (Course.refl s) (fun _ => idle.course) fun _ _ =>
    (idle.trans (Quiet.answer _ p a)).course

theorem execBadFrame_course (p : Port) (cls : Byte) (s t : State) (h : execBadFrame p cls s = .next t) : Course s t := by
  obtain rfl : takeFrame p s (fun u => u.answer p ⟨cls, .badFrame, []⟩) = t := by simpa [execBadFrame] using h
  exact takeFrame_answer_course p s _

theorem execBadClass_course (p : Port) (cls : Byte) (s t : State) (h : execBadClass p cls s = .next t) : Course s t := by
  obtain rfl : takeFrame p s (fun u => u.answer p ⟨cls, .badClass, []⟩) = t := by simpa [execBadClass] using h
  exact takeFrame_answer_course p s _

theorem execInterByteTimeout_course (p : Port) (s t : State) (h : execInterByteTimeout p s = .next t) : Course s t := by
  obtain rfl : (if s.hears p && (s.console p).interByteTimer then s.idleReceiver p else s) = t := by
    simpa [execInterByteTimeout] using h
  split
  · exact (Quiet.idleReceiver s p).course
  · exact Course.refl s

theorem execBreakCondition_course (p : Port) (s t : State) (h : execBreakCondition p s = .next t) : Course s t := by
  obtain rfl : (if s.hears p then s.idleReceiver p else s) = t := by simpa [execBreakCondition] using h
  split
  · exact (Quiet.idleReceiver s p).course
  · exact Course.refl s

theorem Console.transmitted_inFlight (c : Console) : c.transmitted.inFlight = c.inFlight := by
  unfold Console.transmitted
  split <;> rfl

theorem execAnswerTransmitted_course (p : Port) (s t : State) (h : execAnswerTransmitted p s = .next t) : Course s t := by
  obtain rfl : (if s.inReset then s else s.setConsole p (s.console p).transmitted) = t := by
    simpa [execAnswerTransmitted] using h
  split
  · exact Course.refl s
  · exact (Quiet.setConsole s (Console.transmitted_inFlight _)).course

/-- 10 R192: ABORT ends the weighing in flight from its own port. -/
theorem abortReply_courses (p : Port) (r : Unit) (s : State) (awake : s.inReset = false) :
    (abortReply p r s).Courses s p := by
  unfold abortReply
  cases flight : (s.console p).inFlight with
  | none => trivial
  | some f =>
    cases pending : (s.bridge f.bridge).weighing with
    | none =>
      have nothing : s.dropWeighing f.bridge = s := by simp [State.dropWeighing, pending]
      simp only [nothing]
      exact (Deed.unclaimed flight pending).course.quietly (Quiet.endFlight s p _ _)
    | some x =>
      have dropped := dropped_course (br := s.bridge f.bridge) .aborted (Wire.bridge f.bridge) awake pending
        (.inr ⟨f.cls, flight⟩) pending (fun h => h)
      rwa [State.setBridge_bridge] at dropped

/-! ### Weigh links (01 R10, R13, R20) -/

theorem claimRefusal_none {br : Bridge} (h : br.claimRefusal = none) : br.link = .live ∧ br.weighing = none := by
  unfold Bridge.claimRefusal at h
  cases link : br.link <;> simp only [link, reduceCtorEq] at h
  exact ⟨rfl, by simpa using h⟩

theorem openTicketReply_courses (p : Port) (r : OpenTicketReq) (s : State) (awake : s.inReset = false)
    (grounded : (s.console p).inFlight = none) : (openTicketReply p r s).Courses s p := by
  unfold openTicketReply
  split
  · trivial
  · split
    · trivial
    · obtain ⟨live, free⟩ := claimRefusal_none ‹_›
      exact fun cls => (Deed.claimed cls awake grounded live free (.free rfl)).course

theorem storeTareReply_courses (p : Port) (r : StoreTareReq) (s : State) (awake : s.inReset = false)
    (grounded : (s.console p).inFlight = none) : (storeTareReply p r s).Courses s p := by
  unfold storeTareReply
  split
  · trivial
  · split
    · trivial
    · obtain ⟨live, free⟩ := claimRefusal_none ‹_›
      exact fun cls => (Deed.claimed cls awake grounded live free (.free rfl)).course

theorem weighReply_courses (drop : Bool) (p : Port) (r : WeighReq) (s : State) (awake : s.inReset = false)
    (grounded : (s.console p).inFlight = none) : (weighReply drop p r s).Courses s p := by
  unfold weighReply
  split
  · trivial
  · rcases found : s.findTicket r.ticket with _ | ⟨i, t⟩
    · trivial
    · dsimp only
      split
      · trivial
      · split
        · trivial
        · split
          · trivial
          · split
            · trivial
            · rename_i grade _ loaded unmarked room _ refusal
              obtain ⟨live, free⟩ := claimRefusal_none refusal
              refine fun cls => (Deed.claimed cls awake grounded live free (.ticket (n := r.ticket) ?_ found
                (not_not.mp loaded) (by simpa using unmarked) ?_)).course
              · cases drop <;> rfl
              · cases drop
                · exact fun h => by cases h
                · exact fun _ => by simpa using room

/-- 01 R10: a reference within 4 % of Max, raw, is within 8,000 kg. -/
theorem Bridge.zeroed_attends {br : Bridge} {ref : Int} (near : zeroOutOfRange br ref = false) :
    br.Attends { br with zeroOffset := ref } where
  weighing := rfl
  live _ live := live
  sound h := by
    obtain ⟨inRange, ranged⟩ := br.sound_iff.mp h
    refine (Bridge.sound_iff _).mpr ⟨inRange, { ranged with zeroed := ?_ }⟩
    obtain ⟨-, capacity, -⟩ := inRange
    simp only [zeroOutOfRange, decide_eq_false_iff_not, not_or, not_lt] at near
    show |ref| ≤ 8000
    rw [Int.abs_eq_natAbs]
    omega

theorem zeroReply_courses (p : Port) (b : BridgeId) (s : State) (awake : s.inReset = false) :
    (zeroReply p b s).Courses s p := by
  unfold zeroReply
  dsimp only
  split
  · trivial
  · split
    · trivial
    · split
      · trivial
      · split
        · trivial
        · rename_i ref _ near
          exact (Quiet.setBridge awake (Bridge.zeroed_attends (by simpa using near))).course

theorem setBridge_decoded {fields : List Byte} {r : SetBridgeReq} (h : Decode.setBridge fields = some r) :
    BridgeConfig.InRange r.config := by
  have ok : Decode.bridgeConfigOk r.config = true := by
    simp only [Decode.setBridge, bind, Option.bind_eq_some_iff, Decode.finish_iff] at h
    obtain ⟨_, -, _, -, _, -, _, -, _, -, _, -, _, -, _, -, _, -, -, ok, rfl⟩ := h
    exact ok
  simp only [Decode.bridgeConfigOk, Bool.and_eq_true, decide_eq_true_eq, List.contains_iff_mem] at ok
  obtain ⟨⟨⟨⟨⟨⟨⟨⟨c1, c2⟩, division⟩, b1, b2⟩, t1, t2⟩, divider⟩, m1, m2⟩, s1, s2, s3⟩, d1, d2, d3⟩ := ok
  exact ⟨c1, c2, division, d1, d2, d3, b1, b2, t1, t2, divider, m1, m2, s1, s2, s3⟩

/-- 01 R20: a new configuration starts the stability over. -/
theorem Bridge.configured_attends (br : Bridge) {config : BridgeConfig} (inRange : BridgeConfig.InRange config) :
    br.Attends { br with config := config, dividerCount := 0, reference := none, steady := 0 } where
  weighing := rfl
  live _ live := live
  sound h := by
    obtain ⟨-, ranged⟩ := br.sound_iff.mp h
    exact (Bridge.sound_iff _).mpr ⟨inRange, inRange.divider_pos, by simp, ranged.zeroed, fun _ => rfl, fun _ _ => rfl,
      fun _ => ⟨rfl, rfl⟩, ranged.timed⟩

theorem setBridgeReply_courses (p : Port) (r : SetBridgeReq) (s : State) (awake : s.inReset = false)
    (inRange : BridgeConfig.InRange r.config) : (setBridgeReply p r s).Courses s p := by
  unfold setBridgeReply
  dsimp only
  split
  · trivial
  · exact (Quiet.setBridge awake (Bridge.configured_attends _ inRange)).course

/-! ### Tickets and settlement (02 R39, R40, 03 R57, 04 R78, 05 R87) -/

theorem setPartyReply_courses (p : Port) (r : SetPartyReq) (s : State) : (setPartyReply p r s).Courses s p := by
  unfold setPartyReply
  rcases found : s.findTicket r.ticket with _ | ⟨i, t⟩
  · trivial
  · dsimp only
    split
    · trivial
    · exact (Deed.revised found (.party _ _)).course

theorem voidTicketReply_courses (p : Port) (n : Nat) (s : State) : (voidTicketReply p n s).Courses s p := by
  unfold voidTicketReply
  rcases found : s.findTicket n with _ | ⟨i, t⟩
  · trivial
  · dsimp only
    split
    · trivial
    · split
      · trivial
      · rename_i due unmarked
        obtain ⟨unpaid, unvoided⟩ := not_or.mp due
        have counted : Quiet (s.putTicket i (voidedTicket s.stamp t))
            { s with tickets := s.tickets.set i (some (voidedTicket s.stamp t))
                     day := { s.day with voided := satAdd s.day.voided 1 } } := {}
        exact (Deed.revised found (.voided (by simpa using unmarked) unpaid unvoided)).course.quietly
          (counted.trans (Quiet.offer _ p _))

theorem setDeductionReply_courses (p : Port) (r : SetDeductionReq) (s : State) : (setDeductionReply p r s).Courses s p := by
  unfold setDeductionReply
  rcases found : s.findTicket r.ticket with _ | ⟨i, t⟩
  · trivial
  · dsimp only
    split
    · trivial
    · split
      · trivial
      · split
        · trivial
        · rename_i unmarked state _ _ _
          have due : t.state = .settled ∨ t.state = .held := by
            by_contra other
            exact state (not_or.mp other)
          exact (Deed.revised found (.deducted _ _ (by simpa using unmarked) due)).course.quietly (Quiet.offer _ p _)

theorem applyTareReply_courses (p : Port) (r : ApplyTareReq) (s : State) : (applyTareReply p r s).Courses s p := by
  unfold applyTareReply
  split
  · trivial
  · rcases found : s.findTicket r.ticket with _ | ⟨i, t⟩
    · trivial
    · dsimp only
      split
      · trivial
      · split
        · trivial
        · split
          · trivial
          · rcases stored : s.findTare _ with _ | ⟨j, tare⟩
            · trivial
            · dsimp only
              split
              · trivial
              · split
                · trivial
                · split
                  · trivial
                  · rename_i grade _ loaded unmarked _ vehicle _ _ _ lower
                    obtain ⟨held, -, -⟩ := findEntry_some stored
                    exact (Deed.revised found (.closed tare grade r.manual (not_not.mp loaded) (by simpa using unmarked)
                      (mem_entries.mpr (List.mem_of_getElem? held)) (by omega))).course.quietly (Quiet.closeTicket s i _ p)

theorem chargeGrades_defn (grades : List Grade) (lines : List Line) :
    (chargeGrades grades lines).map (·.defn) = grades.map (·.defn) := by
  unfold chargeGrades
  induction lines generalizing grades with
  | nil => rfl
  | cons l rest ih =>
    rw [List.foldl_cons, ih]
    refine List.ext_getElem? fun j => ?_
    rw [List.getElem?_map, List.getElem?_map, List.getElem?_modify]
    split <;> cases grades[j]? <;> rfl

/-- 05 R92 to R96: of the yard, a payment changes the ticket alone. -/
theorem payTicket_course {s : State} {n i : Nat} {t : Ticket} (found : s.findTicket n = some (i, t))
    (due : t.state = .settled ∨ t.state = .held) (p : Port) (seller amount : Nat) (m : Method) :
    Course s (s.payTicket p i t seller amount m) := by
  have charged : Quiet (s.putTicket i (paidTicket t (paymentFigures p m amount s.limits.step s.stamp)))
      { s with
        tickets := s.tickets.set i (some (paidTicket t (paymentFigures p m amount s.limits.step s.stamp)))
        tills := s.tills.set p (chargeTill (s.till p) m amount s.limits.step)
        sellers := if m = Method.cash then chargeSeller (cashAmount amount s.limits.step) seller s.sellers else s.sellers
        day := chargeDay s.day m amount s.limits.step
        grand := chargeGrand s.grand (payableSum t.lines) amount
        grades := chargeGrades s.grades t.lines } := { grades := chargeGrades_defn _ _ }
  exact (Deed.revised found (.paid _ due)).course.quietly (charged.trans (Quiet.enqueue _ p _))

theorem payReply_courses (p : Port) (r : PayReq) (s : State) : (payReply p r s).Courses s p := by
  unfold payReply
  rcases found : s.findTicket r.ticket with _ | ⟨i, t⟩
  · trivial
  · dsimp only
    split
    · trivial
    · split
      · trivial
      · split
        · trivial
        · split
          · trivial
          · split
            · trivial
            · rename_i state _ _ _ _ _ _ _ _
              have due : t.state = .settled ∨ t.state = .held := by
                by_contra other
                exact state (not_or.mp other)
              exact payTicket_course found due p _ _ _

end Sys2Proof.Machine
end

section
/-! PROOFS. The course of the requests that make settings, of the printers' events and of the resets, and so of every step. -/

namespace Sys2Proof.Machine

/-! ### Settings (01 R1, 03 R46, R55, 05 R86, 06 R112, 07 R127) -/

theorem setPayoutLimits_decoded {fields : List Byte} {l : Limits} (h : Decode.setPayoutLimits fields = some l) :
    l.ceiling ≤ 99999999 ∧ l.cap ≤ 99999999 ∧ l.step ∈ [1, 2, 5, 10, 20, 25, 50, 100] := by
  simp only [Decode.setPayoutLimits, bind, Option.bind_eq_some_iff, Decode.finish_iff, Bool.and_eq_true, decide_eq_true_eq,
    List.contains_iff_mem] at h
  obtain ⟨_, -, _, -, _, -, -, ⟨⟨ceiling, cap⟩, step⟩, rfl⟩ := h
  exact ⟨ceiling, cap, step⟩

theorem setTareValidity_decoded {fields : List Byte} {days : Nat} (h : Decode.setTareValidity fields = some days) :
    1 ≤ days ∧ days ≤ 365 := by
  simp only [Decode.setTareValidity, bind, Option.bind_eq_some_iff, Decode.finish_iff, decide_eq_true_eq] at h
  obtain ⟨_, -, -, ok, rfl⟩ := h
  exact ok

theorem setPrinter_decoded {fields : List Byte} {r : SetPrinterReq} (h : Decode.setPrinter fields = some r) :
    r.width ∈ [32, 40, 48] ∧ 1 ≤ r.timeout ∧ r.timeout ≤ 10 := by
  simp only [Decode.setPrinter, bind, Option.bind_eq_some_iff, Decode.finish_iff, Bool.and_eq_true, decide_eq_true_eq,
    List.contains_iff_mem] at h
  obtain ⟨_, -, _, -, _, -, -, ⟨width, timeout⟩, rfl⟩ := h
  exact ⟨width, timeout⟩

theorem setClock_decoded {fields : List Byte} {now : Stamp} (h : Decode.setClock fields = some now) :
    stampValid now = true := by
  simp only [Decode.setClock, bind, Option.bind_eq_some_iff, Decode.finish_iff] at h
  obtain ⟨_, -, _, -, -, ok, rfl⟩ := h
  exact ok

theorem storedChar_printable (b : Byte) : 0x20 ≤ (storedChar b).toNat ∧ (storedChar b).toNat ≤ 0x7E := by
  unfold storedChar
  split
  · simpa [Decode.printable] using ‹Decode.printable b = true›
  · decide

/-- 06 R113: the cells of a header line are 48 printable characters. -/
theorem headerCellsOf_fits (t : Text) :
    (headerCellsOf t).length = 48 ∧ ∀ c ∈ headerCellsOf t, 0x20 ≤ c.toNat ∧ c.toNat ≤ 0x7E := by
  constructor
  · simp only [headerCellsOf, Config.headerCells, List.length_append, List.length_map, List.length_take,
      List.length_replicate]
    omega
  · intro c hc
    simp only [headerCellsOf, List.mem_append, List.mem_map, List.mem_replicate] at hc
    rcases hc with ⟨b, -, rfl⟩ | ⟨-, rfl⟩
    · exact storedChar_printable b
    · decide

theorem setHeaderLineReply_courses (p : Port) (r : SetHeaderLineReq) (s : State) :
    (setHeaderLineReply p r s).Courses s p := by
  refine (Deed.headed (by simp) fun lines l hl => ?_).course
  rcases List.mem_or_eq_of_mem_set hl with held | rfl
  · exact lines l held
  · exact headerCellsOf_fits r.text

theorem setHeaderCellReply_courses (p : Port) (r : SetHeaderCellReq) (s : State) :
    (setHeaderCellReply p r s).Courses s p := by
  refine (Deed.headed (by simp) fun lines l hl => ?_).course
  obtain ⟨j, hj⟩ := List.getElem?_of_mem hl
  rw [List.getElem?_modify, Option.map_eq_map, Option.map_eq_some_iff] at hj
  obtain ⟨old, held, written⟩ := hj
  obtain ⟨length, chars⟩ := lines old (List.mem_of_getElem? held)
  split at written
  · subst written
    refine ⟨by simpa using length, fun c hc => ?_⟩
    rcases List.mem_or_eq_of_mem_set hc with kept | rfl
    · exact chars c kept
    · exact storedChar_printable r.char
  · subst written
    exact ⟨length, chars⟩

theorem setGradeReply_courses (p : Port) (r : SetGradeReq) (s : State) : (setGradeReply p r s).Courses s p := by
  unfold setGradeReply
  split
  · trivial
  · split
    · trivial
    · exact (Deed.graded (by simp)).course

theorem removeGradeReply_courses (p : Port) (code : Nat) (s : State) : (removeGradeReply p code s).Courses s p := by
  unfold removeGradeReply
  split
  · trivial
  · split
    · trivial
    · exact (Deed.graded (by simp)).course

theorem deleteTareReply_courses (p : Port) (v : Text) (s : State) : (deleteTareReply p v s).Courses s p := by
  unfold deleteTareReply
  split
  · trivial
  · exact (Deed.untared _).course

/-! ### Clock (09 R169, R174, R176) -/

theorem monthLength_pos (year month : Nat) : 1 ≤ monthLength year month := by
  unfold monthLength
  split
  · split <;> omega
  · split <;> omega

/-- 09 R169: the day after a real date is a real date. -/
theorem nextDay_valid {d : Date} (h : dateValid d = true) : dateValid (nextDay d) = true := by
  simp only [dateValid, decide_eq_true_eq] at h ⊢
  obtain ⟨y1, y2, m1, m2, d1, d2⟩ := h
  unfold nextDay
  split
  · exact ⟨y1, y2, m1, m2, by dsimp only; omega, by dsimp only; omega⟩
  · split
    · exact ⟨y1, y2, by dsimp only; omega, by dsimp only; omega, le_refl 1, monthLength_pos _ _⟩
    · exact ⟨by dsimp only; split <;> omega, by dsimp only; split <;> omega, le_refl 1, by dsimp only; omega, le_refl 1,
        monthLength_pos _ _⟩

theorem stampValid_iff (s : Stamp) : stampValid s = true ↔
    dateValid s.date = true ∧ s.time.hour ≤ 23 ∧ s.time.minute ≤ 59 ∧ s.time.second ≤ 59 := by
  simp [stampValid, timeValid]

theorem nextHour_valid {s : Stamp} (h : stampValid s = true) : stampValid (nextHour s) = true := by
  rw [stampValid_iff] at h ⊢
  obtain ⟨date, hour, minute, second⟩ := h
  unfold nextHour
  split
  · exact ⟨date, by dsimp only; omega, minute, second⟩
  · exact ⟨nextDay_valid date, by dsimp only; omega, minute, second⟩

theorem nextMinute_valid {s : Stamp} (h : stampValid s = true) : stampValid (nextMinute s) = true := by
  obtain ⟨date, hour, minute, second⟩ := (stampValid_iff s).mp h
  unfold nextMinute
  split
  · exact (stampValid_iff _).mpr ⟨date, hour, by dsimp only; omega, second⟩
  · exact nextHour_valid ((stampValid_iff _).mpr ⟨date, hour, by dsimp only; omega, second⟩)

theorem nextSecond_valid {s : Stamp} (h : stampValid s = true) : stampValid (nextSecond s) = true := by
  obtain ⟨date, hour, minute, second⟩ := (stampValid_iff s).mp h
  unfold nextSecond
  split
  · exact (stampValid_iff _).mpr ⟨date, hour, minute, by dsimp only; omega⟩
  · exact nextMinute_valid ((stampValid_iff _).mpr ⟨date, hour, minute, by dsimp only; omega⟩)

theorem alignedMinute_valid {s : Stamp} (h : stampValid s = true) : stampValid (alignedMinute s) = true := by
  obtain ⟨date, hour, minute, -⟩ := (stampValid_iff s).mp h
  have whole : stampValid { s with time := { s.time with second := 0 } } = true :=
    (stampValid_iff _).mpr ⟨date, hour, minute, by dsimp only; omega⟩
  unfold alignedMinute
  dsimp only
  split
  · exact whole
  · exact nextMinute_valid whole

theorem alignMinuteReply_courses (p : Port) (r : Unit) (s : State) : (alignMinuteReply p r s).Courses s p := by
  unfold alignMinuteReply
  split
  · trivial
  · exact (Deed.ticked alignedMinute_valid).course

/-! ### Tills, the day close and the queues (05 R100 to R103, 07 R142, 08 R162) -/

theorem Quiet.setTill (s : State) (p : Port) (t : Till) : Quiet s (s.setTill p t) := {}

theorem openTillReply_courses (p : Port) (float : Nat) (s : State) : (openTillReply p float s).Courses s p := by
  unfold openTillReply
  split
  · trivial
  · exact (Quiet.setTill s p _).course

theorem loadCashReply_courses (p : Port) (amount : Nat) (s : State) : (loadCashReply p amount s).Courses s p := by
  unfold loadCashReply
  split
  · trivial
  · exact (Quiet.setTill s p _).course

theorem closeTillReply_courses (p : Port) (counted : Nat) (s : State) : (closeTillReply p counted s).Courses s p := by
  unfold closeTillReply
  split
  · trivial
  · split
    · trivial
    · exact ((Quiet.setTill s p _).trans (Quiet.enqueue _ p _)).course

theorem forceCloseTillReply_courses (p k : Port) (s : State) : (forceCloseTillReply p k s).Courses s p := by
  unfold forceCloseTillReply
  split
  · trivial
  · exact ((Quiet.setTill s k _).trans (Quiet.offer _ p _)).course

theorem copyReply_courses (p : Port) (n : Nat) (s : State) : (copyReply p n s).Courses s p := by
  unfold copyReply
  split
  · trivial
  · split
    · trivial
    · exact (Quiet.enqueue s p _).course

theorem discardJobReply_courses (p : Port) (r : Unit) (s : State) : (discardJobReply p r s).Courses s p := by
  have removed : Quiet s (s.removeHead p) := Quiet.setPrinter s rfl rfl
  unfold discardJobReply
  split
  · trivial
  · split
    · trivial
    · exact removed.course
    · split
      · exact removed.course
      · exact (removed.trans (Quiet.endReceipt _ p _ _)).course

/-- 08 R162: of the yard, a close frees the finished tickets; the grades keep their definitions. -/
theorem closeDay_course (s : State) (p : Port) : Course s (s.closeDay p) := by
  have defined : (s.grades.map clearedGrade).map (·.defn) = s.grades.map (·.defn) := by
    rw [List.map_map]
    rfl
  exact Course.after (Quiet.enqueue s p (newJob .dayReport p s.snapDay none)) (Deed.freed.course.quietly { grades := defined })

theorem dayCloseReply_courses (p : Port) (r : Unit) (s : State) : (dayCloseReply p r s).Courses s p := by
  unfold dayCloseReply
  split
  · trivial
  · split
    · trivial
    · exact closeDay_course s p

/-! ### Queries -/

theorem queryTicketReply_courses (p : Port) (r : QueryTicketReq) (s : State) : (queryTicketReply p r s).Courses s p := by
  unfold queryTicketReply
  split
  · trivial
  · split <;> exact Course.refl s

theorem queryGradeReply_courses (p : Port) (r : QueryGradeReq) (s : State) : (queryGradeReply p r s).Courses s p := by
  unfold queryGradeReply
  split
  · split
    · trivial
    · exact Course.refl s
  · exact Course.refl s

theorem queryTareReply_courses (p : Port) (r : QueryTareReq) (s : State) : (queryTareReply p r s).Courses s p := by
  unfold queryTareReply
  split
  · split
    · trivial
    · exact Course.refl s
  · split
    · trivial
    · exact Course.refl s

theorem queryJournalReply_courses (p : Port) (r : QueryJournalReq) (s : State) : (queryJournalReply p r s).Courses s p := by
  unfold queryJournalReply
  split
  · split
    · trivial
    · exact Course.refl s
  · split
    · trivial
    · exact Course.refl s

theorem queryTotalsReply_courses (p : Port) (r : QueryTotalsReq) (s : State) : (queryTotalsReply p r s).Courses s p := by
  unfold queryTotalsReply
  split <;> exact Course.refl s

/-! ### Printer ports (07 R129 to R141) -/

theorem setPrinter_course {s : State} {p : Port} {x : Printer} (width : x.width = (s.printer p).width)
    (timeout : x.timeout = (s.printer p).timeout) : Course s (s.setPrinter p x) := (Quiet.setPrinter s width timeout).course

/-- A port moves on, and with it the journal and its serials. -/
theorem setPrinter_journal_course (s : State) {p : Port} {x : Printer} (serial : Nat) (journal : List JournalEntry)
    (openSerials : Four (Option Nat)) (width : x.width = (s.printer p).width)
    (timeout : x.timeout = (s.printer p).timeout) : Course s
      { s.setPrinter p x with serialCounter := serial, journal := journal, openSerials := openSerials } :=
  ((Quiet.setPrinter s width timeout).trans {}).course

theorem startJob_course (p : Port) (job : Job) (s : State) : Course s (s.startJob p job) := by
  unfold State.startJob
  exact setPrinter_journal_course s _ _ _ rfl rfl

theorem execJobStart_course (p : Port) (s t : State) (h : execJobStart p s = .next t) : Course s t := by
  unfold execJobStart at h
  obtain rfl := Host.Outcome.next.inj h
  split
  · split
    · exact startJob_course p _ s
    · exact Course.refl s
  · exact Course.refl s

theorem restartJob_course (p : Port) (job : Job) (s : State) : Course s (s.restartJob p job) := by
  unfold State.restartJob
  split
  · exact Course.refl s
  · exact setPrinter_journal_course s _ _ _ rfl rfl

theorem readyOrRestart_course (p : Port) (s : State) : Course s (s.readyOrRestart p) := by
  have ready : Course s (s.setPrinter p (s.printer p).ready) := setPrinter_course rfl rfl
  unfold State.readyOrRestart
  split
  · split
    · exact restartJob_course p _ s
    · exact ready
  · exact ready

theorem execStatusReady_course (p : Port) (s t : State) (h : execStatusReady p s = .next t) : Course s t := by
  unfold execStatusReady at h
  obtain rfl := Host.Outcome.next.inj h
  split
  · exact Course.refl s
  · cases (s.printer p).state with
    | unknown => exact setPrinter_course rfl rfl
    | offline => exact readyOrRestart_course p s
    | faulted => exact readyOrRestart_course p s
    | late =>
      show Course s (s.restartLate p)
      unfold State.restartLate
      split
      · exact restartJob_course p _ s
      · exact Course.refl s
    | absent => exact Course.refl s
    | ready => exact Course.refl s
    | printing => exact Course.refl s

/-- 07 R136, 02 R41: a completed job leaves its serial in its ticket. -/
theorem completeJob_course (p : Port) (job : Job) (s : State) : Course s (s.completeJob p job) := by
  have readied : Quiet s (s.setPrinter p { (s.printer p).ready with queue := (s.printer p).queue.drop 1, rendered := none }) :=
    Quiet.setPrinter s rfl rfl
  unfold State.completeJob
  dsimp only
  split
  · exact readied.course
  · rename_i serial _
    refine Course.after (readied.trans (Quiet.endReceipt _ p serial .complete)) ?_
    unfold State.recordCompletion
    split
    · exact Course.refl _
    · rename_i n _
      split
      · exact Course.refl _
      · exact (Deed.revised ‹_› (.recorded job.kind serial)).course

theorem acknowledge_course (p : Port) (job : Job) (lines : List Text) (s : State) : Course s (s.acknowledge p job lines) := by
  unfold State.acknowledge
  dsimp only
  split
  · split
    · exact setPrinter_course rfl rfl
    · exact setPrinter_course rfl rfl
  · exact completeJob_course p job s

theorem execStatusDone_course (p : Port) (s t : State) (h : execStatusDone p s = .next t) : Course s t := by
  unfold execStatusDone at h
  obtain rfl := Host.Outcome.next.inj h
  split
  · split
    · exact acknowledge_course p _ _ s
    · exact Course.refl s
  · exact Course.refl s

theorem execStatusBusy_course (p : Port) (s t : State) (h : execStatusBusy p s = .next t) : Course s t := by
  unfold execStatusBusy at h
  obtain rfl := Host.Outcome.next.inj h
  split
  · exact setPrinter_course rfl rfl
  · exact Course.refl s

theorem execFaultByte_course (p : Port) (r : FaultReason) (s t : State) (h : execFaultByte p r s = .next t) :
    Course s t := by
  unfold execFaultByte at h
  obtain rfl := Host.Outcome.next.inj h
  split
  · exact Course.refl s
  · split
    · exact setPrinter_course rfl rfl
    · exact setPrinter_course rfl rfl

theorem execLineTimerExpiry_course (p : Port) (s t : State) (h : execLineTimerExpiry p s = .next t) : Course s t := by
  unfold execLineTimerExpiry at h
  obtain rfl := Host.Outcome.next.inj h
  split
  · exact Course.refl s
  · cases (s.printer p).state with
    | unknown => exact setPrinter_course rfl rfl
    | offline => exact setPrinter_course rfl rfl
    | faulted => exact setPrinter_course rfl rfl
    | printing => exact setPrinter_course rfl rfl
    | late => exact setPrinter_course rfl rfl
    | absent => exact Course.refl s
    | ready => exact Course.refl s

/-! ### Resets (11 R202 to R204) -/

theorem loseMain_mainLost (s : State) (cause : ResetCause) : MainLost s (s.loseMain.assertBy cause) := by
  have consoles : (s.loseMain.assertBy cause).consoles = Four.ofFn fun p => (s.console p).lost := by cases cause <;> rfl
  have bridges : (s.loseMain.assertBy cause).bridges = Pair.ofFn fun b => (s.bridge b).lost := by cases cause <;> rfl
  have printers : (s.loseMain.assertBy cause).printers = Four.ofFn fun p => (s.printer p).lost := by cases cause <;> rfl
  refine ⟨fun p => ?_, fun b => ⟨(s.bridge b).entryBeam, (s.bridge b).exitBeam, ?_⟩, ?_, ?_, ?_, ?_, ?_, ?_, ?_,
    fun p => ?_, ?_⟩
  · rw [State.console, consoles, Four.get_ofFn]; rfl
  · rw [State.bridge, bridges, Pair.get_ofFn]; rfl
  case refine_10 => rw [State.printer, printers, Four.get_ofFn]; exact ⟨rfl, rfl⟩
  all_goals cases cause <;> rfl

theorem execMainReset_course (cause : ResetCause) (s t : State) (h : execMainReset cause s = .next t) : Course s t := by
  unfold execMainReset at h
  obtain rfl := Host.Outcome.next.inj h
  split
  · rename_i reset
    have still : (s.assertBy cause).inReset = s.inReset := by
      rw [reset]
      revert reset
      cases cause <;> simp [State.assertBy, State.inReset]
    refine Quiet.course ?_
    cases cause
    · exact { inReset := still }
    · exact { inReset := still }
  · exact (Deed.lost (loseMain_mainLost s cause)).course

theorem interrupt_quiet (s : State) (p : Port) : Quiet s (s.interrupt p) := by
  unfold State.interrupt
  split
  · exact Quiet.refl s
  · exact Quiet.endReceipt s p _ .interrupted

theorem release_course (pins : ReleasePins) (s : State) : Course s (s.release pins) := by
  have interrupted := ((((interrupt_quiet s 0).trans (interrupt_quiet _ 1)).trans (interrupt_quiet _ 2)).trans
    (interrupt_quiet _ 3))
  refine Course.after interrupted (Deed.lost ?_).course
  refine ⟨fun p => ?_, fun b => ?_, rfl, rfl, rfl, rfl, rfl, rfl, rfl, fun p => ?_, rfl⟩
  · rw [State.console, State.release, Four.get_ofFn]; rfl
  · exact ⟨_, _, by rw [State.bridge, State.release, Pair.get_ofFn]⟩
  · rw [State.printer, State.release, Four.get_ofFn]
    unfold releasedPrinter
    split <;> exact ⟨rfl, rfl⟩

theorem execMainResetRelease_course (pins : ReleasePins) (s t : State) (h : execMainResetRelease pins s = .next t) :
    Course s t := by
  unfold execMainResetRelease at h
  obtain rfl := Host.Outcome.next.inj h
  split
  · exact release_course pins s
  · exact Course.refl s

theorem execBackupPowerOnReset_course (s t : State) (h : execBackupPowerOnReset s = .next t) : Course s t := by
  obtain rfl := Host.Outcome.next.inj h
  exact Deed.defaulted.course

theorem execSecondBoundary_course (s t : State) (h : execSecondBoundary s = .next t) : Course s t := by
  obtain rfl := Host.Outcome.next.inj h
  exact (Deed.ticked nextSecond_valid).course

end Sys2Proof.Machine
end

section
/-! PROOFS. The course of every command, and of every step. -/

namespace Sys2Proof.Machine

/-- 10 R183, R187: a complete frame is what a command of its port does. -/
theorem requestMeaning_command (p : Port) (cls : Byte) (fields : List Byte) (s : State) :
    ∃ c : Instr, c.isFrame = true ∧ requestMeaning p cls fields s = exec c s := by
  unfold requestMeaning
  split
  exacts [⟨.abort p fields, rfl, rfl⟩, ⟨.queryStatus p fields, rfl, rfl⟩, ⟨.openTicket p fields, rfl, rfl⟩,
    ⟨.weighDrop p fields, rfl, rfl⟩, ⟨.weighTare p fields, rfl, rfl⟩, ⟨.storeTare p fields, rfl, rfl⟩,
    ⟨.applyStoredTare p fields, rfl, rfl⟩, ⟨.zero p fields, rfl, rfl⟩, ⟨.setDeduction p fields, rfl, rfl⟩,
    ⟨.setParty p fields, rfl, rfl⟩, ⟨.openTill p fields, rfl, rfl⟩, ⟨.loadCash p fields, rfl, rfl⟩,
    ⟨.closeTill p fields, rfl, rfl⟩, ⟨.pay p fields, rfl, rfl⟩, ⟨.forceCloseTill p fields, rfl, rfl⟩,
    ⟨.setPayoutLimits p fields, rfl, rfl⟩, ⟨.setGrade p fields, rfl, rfl⟩, ⟨.removeGrade p fields, rfl, rfl⟩,
    ⟨.deleteTare p fields, rfl, rfl⟩, ⟨.setTareValidity p fields, rfl, rfl⟩, ⟨.setBridge p fields, rfl, rfl⟩,
    ⟨.setHeaderLine p fields, rfl, rfl⟩, ⟨.setHeaderCell p fields, rfl, rfl⟩, ⟨.setPrinter p fields, rfl, rfl⟩,
    ⟨.setClock p fields, rfl, rfl⟩, ⟨.alignMinute p fields, rfl, rfl⟩, ⟨.voidTicket p fields, rfl, rfl⟩,
    ⟨.dayClose p fields, rfl, rfl⟩, ⟨.copy p fields, rfl, rfl⟩, ⟨.discardJob p fields, rfl, rfl⟩,
    ⟨.queryTicket p fields, rfl, rfl⟩, ⟨.listTickets p fields, rfl, rfl⟩, ⟨.queryBridge p fields, rfl, rfl⟩,
    ⟨.queryGrade p fields, rfl, rfl⟩, ⟨.queryTare p fields, rfl, rfl⟩, ⟨.queryTill p fields, rfl, rfl⟩,
    ⟨.queryPrinter p fields, rfl, rfl⟩, ⟨.queryJournal p fields, rfl, rfl⟩, ⟨.queryTotals p fields, rfl, rfl⟩,
    ⟨.badClass p cls, rfl, rfl⟩]

/-- A request other than ABORT is handed over with nothing in flight (10 R187 step 3). -/
theorem grounded_of_class {cls : Byte} {s : State} {p : Port} (h : (s.console p).inFlight = none ∨ cls = abortClass)
    (other : cls ≠ abortClass) : (s.console p).inFlight = none := h.resolve_right other

/-- Every command but a console byte does one deed. -/
theorem exec_course_unless_byte (c : Instr) (s t : State) (notByte : ∀ p b, c ≠ .consoleReceivedByte p b)
    (h : exec c s = .next t) : Course s t := by
  cases c with
  | abort p f => exact takeRequest_course h fun r u _ awake _ => abortReply_courses p r u awake
  | queryStatus p f => exact takeRequest_course h fun _ u _ _ _ => Course.refl u
  | openTicket p f =>
    exact takeRequest_course h fun r u _ awake fl => openTicketReply_courses p r u awake (grounded_of_class fl (by decide))
  | weighDrop p f =>
    exact takeRequest_course h fun r u _ awake fl => weighReply_courses true p r u awake (grounded_of_class fl (by decide))
  | weighTare p f =>
    exact takeRequest_course h fun r u _ awake fl => weighReply_courses false p r u awake (grounded_of_class fl (by decide))
  | storeTare p f =>
    exact takeRequest_course h fun r u _ awake fl => storeTareReply_courses p r u awake (grounded_of_class fl (by decide))
  | applyStoredTare p f => exact takeRequest_course h fun r u _ _ _ => applyTareReply_courses p r u
  | zero p f => exact takeRequest_course h fun r u _ awake _ => zeroReply_courses p r u awake
  | setDeduction p f => exact takeRequest_course h fun r u _ _ _ => setDeductionReply_courses p r u
  | setParty p f => exact takeRequest_course h fun r u _ _ _ => setPartyReply_courses p r u
  | openTill p f => exact takeRequest_course h fun r u _ _ _ => openTillReply_courses p r u
  | loadCash p f => exact takeRequest_course h fun r u _ _ _ => loadCashReply_courses p r u
  | closeTill p f => exact takeRequest_course h fun r u _ _ _ => closeTillReply_courses p r u
  | pay p f => exact takeRequest_course h fun r u _ _ _ => payReply_courses p r u
  | forceCloseTill p f => exact takeRequest_course h fun r u _ _ _ => forceCloseTillReply_courses p r u
  | setPayoutLimits p f =>
    exact takeRequest_course h fun r u decoded _ _ =>
      have ⟨ceiling, cap, step⟩ := setPayoutLimits_decoded decoded
      (Deed.limited ceiling cap step).course
  | setGrade p f => exact takeRequest_course h fun r u _ _ _ => setGradeReply_courses p r u
  | removeGrade p f => exact takeRequest_course h fun r u _ _ _ => removeGradeReply_courses p r u
  | deleteTare p f => exact takeRequest_course h fun r u _ _ _ => deleteTareReply_courses p r u
  | setTareValidity p f =>
    exact takeRequest_course h fun r u decoded _ _ =>
      have ⟨low, high⟩ := setTareValidity_decoded decoded
      (Deed.validFor low high).course
  | setBridge p f =>
    exact takeRequest_course h fun r u decoded awake _ => setBridgeReply_courses p r u awake (setBridge_decoded decoded)
  | setHeaderLine p f => exact takeRequest_course h fun r u _ _ _ => setHeaderLineReply_courses p r u
  | setHeaderCell p f => exact takeRequest_course h fun r u _ _ _ => setHeaderCellReply_courses p r u
  | setPrinter p f =>
    exact takeRequest_course h fun r u decoded _ _ =>
      have ⟨width, low, high⟩ := setPrinter_decoded decoded
      (Deed.papered width low high).course
  | setClock p f => exact takeRequest_course h fun r u decoded _ _ => (Deed.dated (setClock_decoded decoded)).course
  | alignMinute p f => exact takeRequest_course h fun r u _ _ _ => alignMinuteReply_courses p r u
  | voidTicket p f => exact takeRequest_course h fun r u _ _ _ => voidTicketReply_courses p r u
  | dayClose p f => exact takeRequest_course h fun r u _ _ _ => dayCloseReply_courses p r u
  | copy p f => exact takeRequest_course h fun r u _ _ _ => copyReply_courses p r u
  | discardJob p f => exact takeRequest_course h fun r u _ _ _ => discardJobReply_courses p r u
  | queryTicket p f => exact takeRequest_course h fun r u _ _ _ => queryTicketReply_courses p r u
  | listTickets p f => exact takeRequest_course h fun _ u _ _ _ => Course.refl u
  | queryBridge p f => exact takeRequest_course h fun _ u _ _ _ => Course.refl u
  | queryGrade p f => exact takeRequest_course h fun r u _ _ _ => queryGradeReply_courses p r u
  | queryTare p f => exact takeRequest_course h fun r u _ _ _ => queryTareReply_courses p r u
  | queryTill p f => exact takeRequest_course h fun _ u _ _ _ => Course.refl u
  | queryPrinter p f => exact takeRequest_course h fun _ u _ _ _ => Course.refl u
  | queryJournal p f => exact takeRequest_course h fun r u _ _ _ => queryJournalReply_courses p r u
  | queryTotals p f => exact takeRequest_course h fun r u _ _ _ => queryTotalsReply_courses p r u
  | badFrame p cls => exact execBadFrame_course p cls s t h
  | badClass p cls => exact execBadClass_course p cls s t h
  | interByteTimeout p => exact execInterByteTimeout_course p s t h
  | breakCondition p => exact execBreakCondition_course p s t h
  | answerTransmitted p => exact execAnswerTransmitted_course p s t h
  | sampleEvent b raw status => exact execSampleEvent_course b raw status s t h
  | badSampleFrame b => exact execBadSampleFrame_course b s t h
  | sampleGapTimeout b => exact execBadSampleFrame_course b s t h
  | staleTimerExpiry b => exact execStaleTimerExpiry_course b s t h
  | beamEvent b e high => exact execBeamEvent_course b e high s t h
  | motionDeadline b => exact execMotionDeadline_course b s t h
  | statusReady p => exact execStatusReady_course p s t h
  | statusDone p => exact execStatusDone_course p s t h
  | statusBusy p => exact execStatusBusy_course p s t h
  | faultByte p r => exact execFaultByte_course p r s t h
  | lineTimerExpiry p => exact execLineTimerExpiry_course p s t h
  | jobStart p => exact execJobStart_course p s t h
  | secondBoundary => exact execSecondBoundary_course s t h
  | mainReset cause => exact execMainReset_course cause s t h
  | mainResetRelease pins => exact execMainResetRelease_course pins s t h
  | backupPowerOnReset => exact execBackupPowerOnReset_course s t h
  | consoleReceivedByte p b => exact absurd rfl (notByte p b)
  | indicatorReceivedByte b x => exact execIndicatorReceivedByte_course b x s t h

theorem frameMeaning_course (p : Port) (body : List Byte) (good : Bool) (s t : State)
    (h : frameMeaning p body good s = .next t) : Course s t := by
  unfold frameMeaning at h
  split at h
  · obtain rfl := Host.Outcome.next.inj h
    exact (Quiet.idleReceiver s p).course
  · rename_i cls fields
    split at h
    · obtain ⟨c, frame, meaning⟩ := requestMeaning_command p cls fields s
      rw [meaning] at h
      exact exec_course_unless_byte c s t (fun q b byte => by rw [byte] at frame; cases frame) h
    · exact execBadFrame_course p cls s t h

theorem receiving_course (s : State) (p : Port) (rx : Receiver) : Course s (s.receiving p rx) :=
  (Quiet.setConsole s (c := { s.console p with rx := rx, interByteTimer := true }) rfl).course

theorem execConsoleReceivedByte_course (p : Port) (b : Byte) (s t : State)
    (h : execConsoleReceivedByte p b s = .next t) : Course s t := by
  unfold execConsoleReceivedByte at h
  split at h
  · split at h
    · obtain rfl := Host.Outcome.next.inj h
      split
      · exact receiving_course s p .length
      · exact Course.refl s
    · obtain rfl := Host.Outcome.next.inj h
      split
      · exact receiving_course s p _
      · exact (Quiet.idleReceiver s p).course
    · obtain rfl := Host.Outcome.next.inj h
      exact receiving_course s p _
    · exact frameMeaning_course p _ _ s t h
  · obtain rfl := Host.Outcome.next.inj h
    exact Course.refl s

theorem exec_course (c : Instr) (s t : State) (h : exec c s = .next t) : Course s t := by
  by_cases byte : ∃ p b, c = .consoleReceivedByte p b
  · obtain ⟨p, b, rfl⟩ := byte
    exact execConsoleReceivedByte_course p b s t h
  · exact exec_course_unless_byte c s t (fun p b is => byte ⟨p, b, is⟩) h

/-- Every step does one deed, and before and after it nothing that the laws speak of. -/
theorem step_course {s t : State} (h : step s = .next t) : Course s t := by
  unfold step at h
  split at h
  · obtain rfl := Host.Outcome.next.inj h
    exact Course.refl s
  · rename_i c rest _
    exact Course.after (t := { s with pending := rest }) {} (exec_course c _ t h)

end Sys2Proof.Machine
end

section
/-! PROOFS. Every step keeps the tables, the settings and the clock (01 R1, R2, 02 R22, 03 R46, R55, 05 R86, 06 R112, 07 R127,
09 R169). -/

namespace Sys2Proof.Machine

/-- A law that holds through what is quiet, and through every deed, is kept by every course. -/
theorem Course.keeps {P : State → Prop} {s t : State} (h : Course s t) (quiet : ∀ {u v}, Quiet u v → P u → P v)
    (deed : ∀ {u v}, Deed u v → P u → P v) (hs : P s) : P t := by
  obtain ⟨s₀, t₀, before, done, rest⟩ := h
  exact quiet rest (deed done (quiet before hs))

/-! ### Tables -/

/-- The tables keep their sizes, and the header its cells. -/
structure SameTables (s t : State) : Prop where
  tickets : t.tickets.length = s.tickets.length := by rfl
  grades : t.grades.length = s.grades.length := by rfl
  tares : t.tares.length = s.tares.length := by rfl
  header : t.header = s.header := by rfl

theorem SameTables.keeps {s t : State} (h : SameTables s t) (sound : s.TablesSound) : t.TablesSound := by
  unfold State.TablesSound
  rw [h.tickets, h.grades, h.tares, h.header]
  exact sound

theorem SameTables.trans {s t u : State} (h : SameTables s t) (k : SameTables t u) : SameTables s u :=
  ⟨k.tickets.trans h.tickets, k.grades.trans h.grades, k.tares.trans h.tares, k.header.trans h.header⟩

theorem Quiet.sameTables {s t : State} (q : Quiet s t) : SameTables s t where
  tickets := by rw [q.tickets]
  grades := by simpa using congrArg List.length q.grades
  tares := by rw [q.tares]
  header := q.header

theorem SameTables.putTicket (s : State) (i : Nat) (t : Ticket) : SameTables s (s.putTicket i t) where
  tickets := by simp

theorem Marked.sameTables {s u : State} {b : BridgeId} {task : WeighTask} (h : Marked s b task u) : SameTables s u := by
  cases h with
  | free _ => exact {}
  | ticket _ _ _ _ _ => exact SameTables.putTicket s _ _

theorem SameTables.clearTaskMark (s : State) (task : WeighTask) : SameTables s (s.clearTaskMark task) := by
  cases names : task.ticket with
  | none => rw [clearTaskMark_free names]; exact {}
  | some n =>
    rw [clearTaskMark_named names]
    rcases s.clearMark_cases n with ⟨-, h⟩ | ⟨i, t, -, h⟩
    · rw [h]; exact {}
    · rw [h]; exact SameTables.putTicket s i _

theorem Delivered.sameTables {s u : State} {b : BridgeId} {x : Weighing} (h : Delivered s b x u) : SameTables s u := by
  cases h with
  | cleared => exact SameTables.clearTaskMark s x.task
  | opened _ _ _ _ _ => exact { tickets := by simp [State.opened] }
  | dropped _ _ _ _ => exact SameTables.putTicket s _ _
  | closed _ _ _ _ => exact SameTables.putTicket s _ _
  | stored _ _ _ => exact { tares := by simp }

theorem MainLost.sameTables {s t : State} (h : MainLost s t) : SameTables s t where
  tickets := by rw [h.tickets, clearMarks, List.length_map]
  grades := by rw [h.grades]
  tares := by rw [h.tares]
  header := h.header

theorem backupDefaults_tablesSound (s : State) : s.backupDefaults.TablesSound := by
  refine ⟨List.length_replicate, List.length_replicate, List.length_replicate, List.length_replicate, fun l hl => ?_⟩
  obtain rfl : l = List.replicate 48 0x20#8 := List.eq_of_mem_replicate hl
  exact ⟨List.length_replicate, fun c hc => by rw [List.eq_of_mem_replicate hc]; decide⟩

theorem Deed.keeps_tables {s t : State} (h : Deed s t) (sound : s.TablesSound) : t.TablesSound := by
  cases h with
  | idle => exact sound
  | claimed _ _ _ _ _ marked => exact (marked.sameTables.trans {}).keeps sound
  | ended _ _ _ _ _ delivered => exact (delivered.sameTables.trans {}).keeps sound
  | unclaimed _ _ => exact sound
  | revised _ _ => exact (SameTables.putTicket s _ _).keeps sound
  | dated _ => exact SameTables.keeps { tickets := by simp } sound
  | ticked _ => exact sound
  | freed => exact SameTables.keeps { tickets := by simp [freeFinished] } sound
  | limited _ _ _ => exact sound
  | validFor _ _ => exact sound
  | headed length lines =>
    obtain ⟨tickets, grades, tares, header, cells⟩ := sound
    exact ⟨tickets, grades, tares, length.trans header, lines cells⟩
  | papered _ _ _ => exact sound
  | graded length => exact SameTables.keeps { grades := length } sound
  | untared i => exact SameTables.keeps { tares := by simp } sound
  | lost main => exact main.sameTables.keeps sound
  | defaulted => exact backupDefaults_tablesSound _

/-! ### Settings -/

/-- 01 R2: what `SettingsSound` says of the links; in reset the counts stand at 0. -/
def State.LinksSound (s : State) : Prop :=
  ∀ b, (s.bridge b).Sound ∧ (s.inReset = true → (s.bridge b).dividerCount = 0 ∧ (s.bridge b).steady = 0)

/-- What `SettingsSound` says of the other settings. -/
def State.ChoicesSound (s : State) : Prop :=
  1 ≤ s.tareValidity ∧ s.tareValidity ≤ 365 ∧ s.limits.ceiling ≤ 99999999
    ∧ s.limits.cap ≤ 99999999 ∧ s.limits.step ∈ [1, 2, 5, 10, 20, 25, 50, 100]
    ∧ ∀ p, (s.printer p).width ∈ [32, 40, 48] ∧ 1 ≤ (s.printer p).timeout ∧ (s.printer p).timeout ≤ 10

theorem State.settingsSound_iff (s : State) : s.SettingsSound ↔ s.LinksSound ∧ s.ChoicesSound := Iff.rfl

/-- The settings but for the links stay as they are. -/
structure SameChoices (s t : State) : Prop where
  tareValidity : t.tareValidity = s.tareValidity := by rfl
  limits : t.limits = s.limits := by rfl
  paper : ∀ p, (t.printer p).width = (s.printer p).width ∧ (t.printer p).timeout = (s.printer p).timeout := by
    intro p; exact ⟨rfl, rfl⟩

theorem SameChoices.keeps {s t : State} (h : SameChoices s t) (sound : s.ChoicesSound) : t.ChoicesSound := by
  unfold State.ChoicesSound
  rw [h.tareValidity, h.limits]
  obtain ⟨v1, v2, ceiling, cap, step, paper⟩ := sound
  exact ⟨v1, v2, ceiling, cap, step, fun p => by rw [(h.paper p).1, (h.paper p).2]; exact paper p⟩

theorem Marked.sameChoices {s u : State} {b : BridgeId} {task : WeighTask} (h : Marked s b task u) : SameChoices s u := by
  cases h <;> exact {}

theorem Delivered.sameChoices {s u : State} {b : BridgeId} {x : Weighing} (h : Delivered s b x u) : SameChoices s u := by
  cases h with
  | cleared =>
    obtain ⟨tickets, h⟩ := s.clearTaskMark_frame x.task
    rw [h]; exact {}
  | opened _ _ _ _ _ => exact {}
  | dropped _ _ _ _ => exact {}
  | closed _ _ _ _ => exact {}
  | stored _ _ _ => exact {}

theorem backupDefaults_choicesSound (s : State) : s.backupDefaults.ChoicesSound := by
  refine ⟨(by decide : 1 ≤ 90), (by decide : 90 ≤ 365), (by decide : 100000 ≤ 99999999), (by decide : 250000 ≤ 99999999),
    (by decide : 5 ∈ [1, 2, 5, 10, 20, 25, 50, 100]), fun p => ?_⟩
  rw [State.printer, State.backupDefaults, Four.get_ofFn]
  exact (by decide : 40 ∈ [32, 40, 48] ∧ 1 ≤ 3 ∧ 3 ≤ 10)

theorem Deed.keeps_choices {s t : State} (h : Deed s t) (sound : s.ChoicesSound) : t.ChoicesSound := by
  cases h with
  | idle => exact sound
  | claimed _ _ _ _ _ marked => exact marked.sameChoices.keeps sound
  | ended _ _ _ _ _ delivered => exact delivered.sameChoices.keeps sound
  | unclaimed _ _ => exact sound
  | revised _ _ => exact sound
  | dated _ => exact sound
  | ticked _ => exact sound
  | freed => exact sound
  | limited ceiling cap step =>
    obtain ⟨low, high, -, -, -, paper⟩ := sound
    exact ⟨low, high, ceiling, cap, step, paper⟩
  | validFor low high =>
    obtain ⟨-, -, rest⟩ := sound
    exact ⟨low, high, rest⟩
  | headed _ _ => exact sound
  | papered width low high =>
    obtain ⟨v1, v2, ceiling, cap, step, paper⟩ := sound
    refine ⟨v1, v2, ceiling, cap, step, fun p => ?_⟩
    rw [State.printer_setPrinter]
    split
    · exact ⟨width, low, high⟩
    · exact paper p
  | graded _ => exact sound
  | untared _ => exact sound
  | lost main => exact SameChoices.keeps ⟨main.tareValidity, main.limits, main.paper⟩ sound
  | defaulted => exact backupDefaults_choicesSound _

theorem defaultConfig_inRange : BridgeConfig.InRange defaultConfig := by
  unfold BridgeConfig.InRange
  decide

/-- 01 R2: the live state of a link after main reset. -/
theorem resetBridge_sound {config : BridgeConfig} (inRange : BridgeConfig.InRange config) (entryBeam exitBeam : Beam) :
    (resetBridge config entryBeam exitBeam).Sound :=
  (Bridge.sound_iff _).mpr ⟨inRange, inRange.divider_pos, by simp [resetBridge], by simp [resetBridge], fun _ => rfl,
    fun _ _ => rfl, fun _ => ⟨rfl, rfl⟩, by simp [resetBridge]⟩

theorem Marked.bridges {s u : State} {b : BridgeId} {task : WeighTask} (h : Marked s b task u) : u.bridges = s.bridges := by
  cases h <;> rfl

/-- 01 R13: the bridges once the weighing is taken. -/
theorem Marked.claimed_bridges {s u : State} {b : BridgeId} {task : WeighTask} (h : Marked s b task u) (p : Port)
    (cls : Byte) : ((u.startWeighing b p task).beginFlight p cls b).bridges =
      s.bridges.set b { s.bridge b with weighing := some ⟨p, task, (s.bridge b).config.motionTimeout⟩ } := by
  rw [State.beginFlight_bridges, State.startWeighing_bridges, State.bridge, h.bridges]
  rfl

theorem Delivered.bridges {s u : State} {b : BridgeId} {x : Weighing} (h : Delivered s b x u) : u.bridges = s.bridges := by
  cases h with
  | cleared =>
    obtain ⟨tickets, h⟩ := s.clearTaskMark_frame x.task
    rw [h]
  | opened _ _ _ _ _ => rfl
  | dropped _ _ _ _ => rfl
  | closed _ _ _ _ => rfl
  | stored _ _ _ => rfl

/-- 01 R14, R17: the bridges once the weighing has ended. -/
theorem Delivered.ended_bridges {s u : State} {b : BridgeId} {x : Weighing} (h : Delivered s b x u) (br : Bridge) (p : Port) :
    ((u.setBridge b br).unflown p).bridges = s.bridges.set b br := by
  rw [State.unflown, State.setConsole_bridges, State.setBridge_bridges, h.bridges]

theorem Marked.inReset {s u : State} {b : BridgeId} {task : WeighTask} (h : Marked s b task u) : u.inReset = s.inReset := by
  cases h <;> rfl

theorem Delivered.inReset {s u : State} {b : BridgeId} {x : Weighing} (h : Delivered s b x u) : u.inReset = s.inReset := by
  cases h with
  | cleared =>
    obtain ⟨tickets, h⟩ := s.clearTaskMark_frame x.task
    rw [h]; rfl
  | opened _ _ _ _ _ => rfl
  | dropped _ _ _ _ => rfl
  | closed _ _ _ _ => rfl
  | stored _ _ _ => rfl

/-- A link whose bridge alone changes, outside main reset. -/
theorem linksSound_setBridge {s t : State} {b : BridgeId} {br : Bridge} (awake : s.inReset = false)
    (bridges : t.bridges = s.bridges.set b br) (inReset : t.inReset = s.inReset) (sound : s.LinksSound) (changed : br.Sound) :
    t.LinksSound := by
  intro c
  refine ⟨?_, fun reset => by rw [inReset, awake] at reset; contradiction⟩
  rw [State.bridge, bridges, Pair.get_set]
  split
  · exact changed
  · exact (sound c).1

/-- 11 R203: the configurations at their power-on values. The state they come to is in reset, with the counts at 0. -/
theorem backupDefaults_linksSound {s : State} (sound : s.LinksSound) (reset : s.inReset = true) :
    s.backupDefaults.LinksSound := by
  intro b
  obtain ⟨link, rest⟩ := sound b
  obtain ⟨count, steady⟩ := rest reset
  obtain ⟨-, ranged⟩ := (Bridge.sound_iff _).mp link
  have here : s.backupDefaults.bridge b = { s.bridge b with config := defaultConfig } := by
    rw [State.bridge, State.backupDefaults, Pair.get_ofFn]
  rw [here]
  refine ⟨(Bridge.sound_iff _).mpr ⟨defaultConfig_inRange, ?_, ranged.bounded, ranged.zeroed, ranged.unreferenced,
    fun _ _ => steady, ranged.unlinked, ranged.timed⟩, fun _ => ⟨count, steady⟩⟩
  show (s.bridge b).dividerCount < 1
  omega

theorem MainLost.linksSound {s t : State} (main : MainLost s t) (sound : s.LinksSound) : t.LinksSound := by
  intro b
  obtain ⟨entryBeam, exitBeam, h⟩ := main.bridges b
  obtain ⟨inRange, -⟩ := (Bridge.sound_iff _).mp (sound b).1
  rw [h]
  exact ⟨resetBridge_sound inRange entryBeam exitBeam, fun _ => ⟨rfl, rfl⟩⟩

/-- 11 R203: a backup power-on reset starts from a state that is in reset, its main domain lost. -/
theorem assertBy_inReset (s : State) (cause : ResetCause) : (s.assertBy cause).inReset = true := by
  cases cause <;> simp [State.assertBy, State.inReset]

theorem Quiet.keeps_links {s t : State} (q : Quiet s t) (sound : s.LinksSound) : t.LinksSound := by
  intro b
  obtain ⟨link, rest⟩ := sound b
  refine ⟨(q.bridges b).sound link, fun reset => ?_⟩
  rw [q.inReset] at reset
  have same : t.bridge b = s.bridge b := by rw [State.bridge, q.rested reset]; rfl
  rw [same]
  exact rest reset

theorem Deed.keeps_links {s t : State} (h : Deed s t) (sound : s.LinksSound) : t.LinksSound := by
  cases h with
  | idle => exact sound
  | @claimed p b task u cls awake _ _ _ marked =>
    exact linksSound_setBridge awake (marked.claimed_bridges p cls) marked.inReset sound (sound b).1
  | ended awake _ _ _ kept delivered =>
    exact linksSound_setBridge awake (delivered.ended_bridges _ _) delivered.inReset sound (kept (sound _).1)
  | unclaimed _ _ => exact sound
  | revised _ _ => exact sound
  | dated _ => exact sound
  | ticked _ => exact sound
  | freed => exact sound
  | limited _ _ _ => exact sound
  | validFor _ _ => exact sound
  | headed _ _ => exact sound
  | papered _ _ _ => exact sound
  | graded _ => exact sound
  | untared _ => exact sound
  | lost main => exact main.linksSound sound
  | defaulted =>
    split
    · rename_i reset
      exact backupDefaults_linksSound (fun b => ⟨(sound b).1, fun _ => (sound b).2 reset⟩) (assertBy_inReset s .vcore)
    · exact backupDefaults_linksSound ((loseMain_mainLost s .vcore).linksSound sound) (assertBy_inReset _ .vcore)

theorem step_keeps_tables {s t : State} (h : step s = .next t) : s.TablesSound → t.TablesSound :=
  (step_course h).keeps (fun q => q.sameTables.keeps) Deed.keeps_tables

theorem step_keeps_settings {s t : State} (h : step s = .next t) (sound : s.SettingsSound) : t.SettingsSound := by
  obtain ⟨links, choices⟩ := (s.settingsSound_iff).mp sound
  exact (t.settingsSound_iff).mpr ⟨(step_course h).keeps Quiet.keeps_links Deed.keeps_links links,
    (step_course h).keeps (fun q => SameChoices.keeps ⟨q.tareValidity, q.limits, q.paper⟩) Deed.keeps_choices choices⟩

/-! ### Clock -/

theorem State.clockSound_iff (s : State) : s.ClockSound ↔ stampValid s.clock.now = true := by
  rw [stampValid_iff]
  simp only [State.ClockSound, dateValid, decide_eq_true_eq]
  tauto

/-- The clock is left alone, or comes to a real date and time from a real one. -/
theorem Deed.clock {s t : State} (h : Deed s t) (sound : stampValid s.clock.now = true) : stampValid t.clock.now = true := by
  cases h with
  | idle => exact sound
  | claimed _ _ _ _ _ marked => cases marked <;> exact sound
  | ended _ _ _ _ _ delivered =>
    cases delivered with
    | cleared =>
      obtain ⟨tickets, h⟩ := s.clearTaskMark_frame _
      rw [h]; exact sound
    | opened _ _ _ _ _ => exact sound
    | dropped _ _ _ _ => exact sound
    | closed _ _ _ _ => exact sound
    | stored _ _ _ => exact sound
  | unclaimed _ _ => exact sound
  | revised _ _ => exact sound
  | dated valid => exact valid
  | ticked valid => exact valid sound
  | freed => exact sound
  | limited _ _ _ => exact sound
  | validFor _ _ => exact sound
  | headed _ _ => exact sound
  | papered _ _ _ => exact sound
  | graded _ => exact sound
  | untared _ => exact sound
  | lost main => rw [main.clock]; exact sound
  | defaulted => rfl

theorem step_keeps_clock {s t : State} (h : step s = .next t) (sound : s.ClockSound) : t.ClockSound := by
  rw [State.clockSound_iff] at sound ⊢
  exact (step_course h).keeps (P := fun u => stampValid u.clock.now = true) (fun q valid => by rw [q.clock]; exact valid)
    Deed.clock sound

/-- Settles O53: each law through the course of the step. -/
theorem stepsKeepTablesSettingsAndClock : Obligations.StepsKeepTablesSettingsAndClock :=
  fun _ _ h => ⟨step_keeps_tables h, step_keeps_settings h, step_keeps_clock h⟩

end Sys2Proof.Machine
end

section
/-! PROOFS. Lookups, and the number that a new ticket takes (02 R26, R27, 03 R47, R55). -/

namespace Sys2Proof.Machine

/-! ### Lookups -/

theorem State.findTicket_eq_some {s : State} {n i : Nat} {t : Ticket} (found : s.findTicket n = some (i, t)) :
    s.tickets[i]? = some (some t) ∧ t.number = n :=
  ⟨(findEntry_some found).1, State.findTicket_number found⟩

theorem State.findTicket_mem {s : State} {n i : Nat} {t : Ticket} (found : s.findTicket n = some (i, t)) :
    t ∈ entries s.tickets :=
  mem_entries.mpr (List.mem_of_getElem? (State.findTicket_eq_some found).1)

theorem State.findTicket_eq_none {s : State} {n : Nat} : s.findTicket n = none ↔ ∀ t ∈ entries s.tickets, t.number ≠ n := by
  simp [State.findTicket, findEntry_none]

theorem State.findTicket_isSome {s : State} {n : Nat} :
    (s.findTicket n).isSome = true ↔ ∃ t ∈ entries s.tickets, t.number = n := by
  rw [← Option.ne_none_iff_isSome, Ne, State.findTicket_eq_none]
  push Not
  rfl

theorem State.gradeIndex_eq_some {s : State} {code i : Nat} (found : s.gradeIndex code = some i) :
    ∃ d, s.gradeDef i = some d ∧ d.code = code := by
  obtain ⟨⟨g, here, carries⟩, -⟩ := firstIndex_some found
  cases defined : g.defn with
  | none => simp [defined] at carries
  | some d => exact ⟨d, by simp [State.gradeDef, here, defined], by simpa [defined] using carries⟩

theorem State.gradeIndex_eq_none {s : State} {code : Nat} :
    s.gradeIndex code = none ↔ ∀ d ∈ s.grades.filterMap (·.defn), d.code ≠ code := by
  rw [State.gradeIndex, firstIndex_none]
  simp only [List.mem_filterMap, Option.any_eq_false, beq_eq_false_iff_ne]
  exact ⟨fun h d ⟨g, hg, defined⟩ => h g hg d defined, fun h g hg d defined => h d ⟨g, hg, defined⟩⟩

theorem State.findTare_eq_some {s : State} {v : Text} {i : Nat} {e : Tare} (found : s.findTare v = some (i, e)) :
    s.tares[i]? = some (some e) ∧ e.vehicle = v := by
  obtain ⟨here, carries, -⟩ := findEntry_some found
  exact ⟨here, by simpa using carries⟩

theorem State.findTare_eq_none {s : State} {v : Text} : s.findTare v = none ↔ ∀ e ∈ entries s.tares, e.vehicle ≠ v := by
  simp [State.findTare, findEntry_none]

/-! ### The number of a new ticket (02 R27) -/

/-- The number `j` places after `n`, with 999,999 followed by 1. -/
def numberAfter (n j : Nat) : Nat := (n - 1 + j) % 999999 + 1

theorem numberAfter_zero {n : Nat} (h : 1 ≤ n ∧ n ≤ 999999) : numberAfter n 0 = n := by
  unfold numberAfter
  omega

theorem numberAfter_nextNumber {n : Nat} (h : 1 ≤ n ∧ n ≤ 999999) (j : Nat) :
    numberAfter (nextNumber n) j = numberAfter n (j + 1) := by
  unfold numberAfter nextNumber Config.numberMax
  split <;> omega

theorem numberAfter_injective {n j k : Nat} (hj : j < 64) (hk : k < 64) (same : numberAfter n j = numberAfter n k) :
    j = k := by
  unfold numberAfter at same
  omega

/-- The search stops at the first number that is not in use, or runs out of fuel. -/
theorem freeNumber_eq (used : Nat → Bool) (fuel : Nat) {n : Nat} (h : 1 ≤ n ∧ n ≤ 999999) :
    ∃ k ≤ fuel, freeNumber used fuel n = numberAfter n k ∧ (∀ j < k, used (numberAfter n j) = true)
      ∧ (k < fuel → used (numberAfter n k) = false) := by
  induction fuel generalizing n with
  | zero => exact ⟨0, le_refl 0, (numberAfter_zero h).symm, by omega, by omega⟩
  | succ fuel ih =>
    cases inUse : used n with
    | false => exact ⟨0, by omega, by simp [freeNumber, inUse, numberAfter_zero h], by omega, by simp [numberAfter_zero h, inUse]⟩
    | true =>
      obtain ⟨k, bound, value, before, free⟩ := ih (nextNumber_range h)
      simp only [numberAfter_nextNumber h] at value before free
      refine ⟨k + 1, by omega, by simp [freeNumber, inUse, value], fun j hj => ?_, fun hk => free (by omega)⟩
      cases j with
      | zero => rw [numberAfter_zero h]; exact inUse
      | succ j => exact before j (by omega)

/-- At most 63 tickets cannot carry 64 numbers in a row. -/
theorem exists_unused_number {s : State} (n : Nat) (room : (entries s.tickets).length ≤ 63) :
    ∃ j < 64, (s.findTicket (numberAfter n j)).isSome = false := by
  by_contra all
  push Not at all
  have carried : (List.range 64).map (numberAfter n) ⊆ (entries s.tickets).map (·.number) := by
    intro m hm
    obtain ⟨j, hj, rfl⟩ := List.mem_map.mp hm
    obtain ⟨t, ht, number⟩ := State.findTicket_isSome.mp (by simpa [Option.isSome_iff_ne_none] using all j (List.mem_range.mp hj))
    exact List.mem_map.mpr ⟨t, ht, number⟩
  have distinct : ((List.range 64).map (numberAfter n)).Nodup :=
    List.Nodup.map_on (fun j hj k hk => numberAfter_injective (List.mem_range.mp hj) (List.mem_range.mp hk)) List.nodup_range
  have few := (List.subperm_of_subset distinct carried).length_le
  simp only [List.length_map, List.length_range] at few
  omega

/-- 02 R27: with a FREE slot, the number given is the first one from the counter on that no ticket carries. -/
theorem State.newNumber_eq {s : State} (room : (entries s.tickets).length ≤ 63)
    (counter : 1 ≤ s.ticketCounter ∧ s.ticketCounter ≤ 999999) :
    ∃ k ≤ 63, s.newNumber = numberAfter s.ticketCounter k ∧ s.findTicket s.newNumber = none
      ∧ ∀ j < k, (s.findTicket (numberAfter s.ticketCounter j)).isSome = true := by
  obtain ⟨k, bound, value, before, free⟩ := freeNumber_eq (fun n => (s.findTicket n).isSome) Config.slots counter
  obtain ⟨j, hj, unused⟩ := exists_unused_number s.ticketCounter room
  have few : k ≤ j := by
    by_contra more
    have used := before j (by omega)
    rw [unused] at used
    contradiction
  have found : s.newNumber = numberAfter s.ticketCounter k := value
  refine ⟨k, by omega, found, ?_, before⟩
  rw [found]
  simpa using free (show k < 64 by omega)

/-- Settles O23: the lookups by the laws of the tables, the new number by the search. -/
theorem lookupsAndNewNumbers : Obligations.LookupsAndNewNumbers := by
  refine ⟨fun s => ⟨fun n i t => State.findTicket_eq_some, fun n => State.findTicket_eq_none, fun code i found => ?_,
    fun code => State.gradeIndex_eq_none, fun v i e => State.findTare_eq_some, fun v => State.findTare_eq_none⟩,
    fun s room low high => State.newNumber_eq room ⟨low, high⟩⟩
  obtain ⟨d, defined, same⟩ := State.gradeIndex_eq_some found
  rw [defined, Option.map_some, same]

end Sys2Proof.Machine
end

section
/-! PROOFS. Every step keeps the ticket numbers distinct (02 R22, R27), and the requests in flight, the pending weighings and the
pending marks in agreement (01 R12, 02 R34, R35, 10 R190). -/

namespace Sys2Proof.Machine

/-! ### The entries of a table after an update -/

theorem entries_map_fields {α β : Type} (f : α → β) (xs : List (Option α)) :
    (entries xs).map f = entries (xs.map (Option.map f)) := by
  simp only [entries, List.map_filterMap, List.filterMap_map, Function.comp_def, id]

theorem entries_map {α : Type} (g : α → α) (xs : List (Option α)) :
    entries (xs.map (Option.map g)) = (entries xs).map g := (entries_map_fields g xs).symm

theorem entries_filter {α : Type} (q : α → Bool) (xs : List (Option α)) :
    entries (xs.map (Option.filter q)) = (entries xs).filter q := by
  induction xs with
  | nil => rfl
  | cons x rest ih =>
    cases x with
    | none => simpa [entries] using ih
    | some a => cases h : q a <;> simp_all [entries, Option.filter]

/-- A field that an entry keeps is kept by the table. -/
theorem entries_set_fields {α β : Type} (f : α → β) {xs : List (Option α)} {i : Nat} {a b : α}
    (here : xs[i]? = some (some a)) (same : f b = f a) : (entries (xs.set i (some b))).map f = (entries xs).map f := by
  have unchanged : (xs.map (Option.map f)).set i (some (f b)) = xs.map (Option.map f) := by
    refine List.ext_getElem? fun j => ?_
    rw [List.getElem?_set]
    split
    · rename_i at_i
      subst at_i
      obtain ⟨bound, -⟩ := List.getElem?_eq_some_iff.mp here
      rw [List.getElem?_map, here, if_pos (by simpa using bound), Option.map_some, Option.map_some, same]
    · rfl
  rw [entries_map_fields, entries_map_fields, List.map_set, Option.map_some, unchanged]

/-- An entry put into an empty position comes to the others. -/
theorem entries_set_empty {α : Type} {xs : List (Option α)} {i : Nat} (a : α) (here : xs[i]? = some none) :
    (entries (xs.set i (some a))).Perm (a :: entries xs) := by
  induction xs generalizing i with
  | nil => simp at here
  | cons x rest ih =>
    cases i with
    | zero =>
      obtain rfl : x = none := by simpa using here
      exact List.Perm.refl _
    | succ i =>
      have inner := ih (i := i) (by simpa using here)
      cases x with
      | none => exact inner
      | some b => exact (inner.cons b).trans (List.Perm.swap a b _)

/-- Two positions that hold entries with one key, where no key stands twice, are one. -/
theorem position_unique {α β : Type} {f : α → β} {xs : List (Option α)} (distinct : ((entries xs).map f).Nodup) {i j : Nat}
    {a b : α} (hi : xs[i]? = some (some a)) (hj : xs[j]? = some (some b)) (same : f a = f b) : i = j := by
  rw [entries, List.map_filterMap, List.Nodup, List.pairwise_filterMap] at distinct
  obtain ⟨li, ei⟩ := List.getElem?_eq_some_iff.mp hi
  obtain ⟨lj, ej⟩ := List.getElem?_eq_some_iff.mp hj
  rw [List.pairwise_iff_getElem] at distinct
  rcases lt_trichotomy i j with less | equal | more
  · exact absurd same (distinct i j li lj less (f a) (by simp [ei]) (f b) (by simp [ej]))
  · exact equal
  · exact absurd same.symm (distinct j i lj li more (f b) (by simp [ej]) (f a) (by simp [ei]))

/-! ### Tickets by their numbers -/

/-- 02 R22: no two tickets carry one number. -/
def State.Distinct (s : State) : Prop := ((entries s.tickets).map (·.number)).Nodup

theorem State.Distinct.unique {s : State} (distinct : s.Distinct) {t u : Ticket} (ht : t ∈ entries s.tickets)
    (hu : u ∈ entries s.tickets) (same : t.number = u.number) : t = u :=
  List.inj_on_of_nodup_map distinct ht hu same

/-- The tickets once the one of number `n` was replaced. -/
theorem State.mem_putTicket {s : State} (distinct : s.Distinct) {n i : Nat} {t t' u : Ticket}
    (found : s.findTicket n = some (i, t)) :
    u ∈ entries (s.putTicket i t').tickets ↔ u = t' ∨ (u ∈ entries s.tickets ∧ u.number ≠ n) := by
  obtain ⟨here, number⟩ := State.findTicket_eq_some found
  obtain ⟨bound, -⟩ := List.getElem?_eq_some_iff.mp here
  rw [State.putTicket_tickets, mem_entries, mem_entries]
  constructor
  · intro held
    obtain ⟨j, hj⟩ := List.getElem?_of_mem held
    by_cases at_i : i = j
    · subst at_i
      exact .inl (by simpa [List.getElem?_set, bound, eq_comm] using hj)
    · rw [List.getElem?_set_ne at_i] at hj
      exact .inr ⟨List.mem_of_getElem? hj, fun same => at_i (position_unique distinct here hj (number.trans same.symm))⟩
  · rintro (rfl | ⟨held, other⟩)
    · exact List.mem_set bound _
    · obtain ⟨j, hj⟩ := List.getElem?_of_mem held
      have at_j : i ≠ j := by
        rintro rfl
        rw [here] at hj
        obtain rfl : t = u := by simpa using hj
        exact other number
      exact List.mem_of_getElem? (i := j) (by rw [List.getElem?_set_ne at_j]; exact hj)

theorem State.putTicket_numbers {s : State} {n i : Nat} {t t' : Ticket} (found : s.findTicket n = some (i, t))
    (number : t'.number = t.number) :
    (entries (s.putTicket i t').tickets).map (·.number) = (entries s.tickets).map (·.number) :=
  entries_set_fields _ (State.findTicket_eq_some found).1 number

theorem recordSerial_fields (kind : JobKind) (serial : Nat) (t : Ticket) : (recordSerial kind serial t).number = t.number
    ∧ (recordSerial kind serial t).pending = t.pending ∧ (recordSerial kind serial t).state = t.state := by
  unfold recordSerial
  repeat' split
  all_goals exact ⟨rfl, rfl, rfl⟩

theorem dated_fields (today : Date) (t : Ticket) :
    (t.dated today).number = t.number ∧ (t.dated today).pending = t.pending ∧ (t.dated today).state = t.state := by
  unfold Ticket.dated
  split <;> exact ⟨rfl, rfl, rfl⟩

theorem Revised.number {s : State} {t t' : Ticket} (h : Revised s t t') : t'.number = t.number := by
  cases h with
  | recorded kind serial => exact (recordSerial_fields kind serial t).1
  | party _ _ => rfl
  | deducted _ _ _ _ => rfl
  | voided _ _ _ => rfl
  | paid _ _ => rfl
  | closed _ _ _ _ _ _ _ => rfl

/-! ### Numbers (02 R22, R27) -/

/-- No number comes to the table, and the counter stays. -/
structure FewerNumbers (s t : State) : Prop where
  numbers : ((entries t.tickets).map (·.number)).Sublist ((entries s.tickets).map (·.number)) := by exact List.Sublist.refl _
  counter : t.ticketCounter = s.ticketCounter := by rfl

theorem FewerNumbers.keeps {s t : State} (h : FewerNumbers s t) (sound : s.NumbersSound) : t.NumbersSound := by
  obtain ⟨distinct, range, low, high⟩ := sound
  refine ⟨h.numbers.nodup distinct, fun u hu => ?_, by rw [h.counter]; exact low, by rw [h.counter]; exact high⟩
  obtain ⟨v, hv, same⟩ := List.mem_map.mp (h.numbers.subset (List.mem_map_of_mem hu))
  rw [← same]
  exact range v hv

theorem FewerNumbers.putTicket {s : State} {n i : Nat} {t t' : Ticket} (found : s.findTicket n = some (i, t))
    (number : t'.number = t.number) : FewerNumbers s (s.putTicket i t') where
  numbers := by rw [State.putTicket_numbers found number]

theorem putTicket_numbersSound {s : State} {n i : Nat} {t t' : Ticket} (found : s.findTicket n = some (i, t))
    (number : t'.number = t.number) (sound : s.NumbersSound) : (s.putTicket i t').NumbersSound :=
  (FewerNumbers.putTicket found number).keeps sound

theorem FewerNumbers.map {s t : State} {g : Ticket → Ticket} (tickets : t.tickets = s.tickets.map (Option.map g))
    (number : ∀ u, (g u).number = u.number) (counter : t.ticketCounter = s.ticketCounter) : FewerNumbers s t where
  numbers := by
    rw [tickets, entries_map, List.map_map, show (fun u : Ticket => u.number) ∘ g = (·.number) from funext number]
  counter := counter

theorem FewerNumbers.clearTaskMark (s : State) (task : WeighTask) : FewerNumbers s (s.clearTaskMark task) := by
  cases names : task.ticket with
  | none => rw [clearTaskMark_free names]; exact {}
  | some n =>
    rw [clearTaskMark_named names]
    rcases s.clearMark_cases n with ⟨-, h⟩ | ⟨i, t, found, h⟩
    · rw [h]; exact {}
    · rw [h]; exact FewerNumbers.putTicket found rfl

theorem State.freeSlot_eq_some {s : State} {i : Nat} (slot : s.freeSlot = some i) : s.tickets[i]? = some none :=
  (firstEmpty_some slot).1

/-- 02 R22: a table of 64 slots with one FREE holds at most 63 tickets. -/
theorem State.room_of_freeSlot {s : State} {i : Nat} (slots : s.tickets.length = 64) (slot : s.freeSlot = some i) :
    (entries s.tickets).length ≤ 63 := by
  have few := entries_length_le s.tickets
  have other : (entries s.tickets).length ≠ s.tickets.length := fun full =>
    entries_length_eq.mp full (List.mem_of_getElem? (State.freeSlot_eq_some slot))
  omega

theorem State.opened_perm {s : State} {i : Nat} (slot : s.freeSlot = some i) (b : BridgeId) (w : Nat)
    (vehicle : Option Text) (seller : Option Nat) :
    (entries (s.opened i b w vehicle seller).tickets).Perm
      ({ number := s.newNumber, state := .loaded, pending := none, vehicle, seller, opened := s.stamp
         weighings := [⟨.gross, w, b, s.stamp⟩], lines := [], settlement := none, payment := none, void := none }
        :: entries s.tickets) :=
  entries_set_empty _ (State.freeSlot_eq_some slot)

/-- 02 R27, R29: a new ticket takes a number that no ticket carries. -/
theorem opened_numbersSound {s : State} {i : Nat} (tables : s.TablesSound) (sound : s.NumbersSound)
    (slot : s.freeSlot = some i) (b : BridgeId) (w : Nat) (vehicle : Option Text) (seller : Option Nat) :
    (s.opened i b w vehicle seller).NumbersSound := by
  obtain ⟨distinct, range, low, high⟩ := sound
  obtain ⟨-, -, -, unused, -⟩ := State.newNumber_eq (State.room_of_freeSlot tables.1 slot) ⟨low, high⟩
  have new : 1 ≤ s.newNumber ∧ s.newNumber ≤ 999999 := freeNumber_range ⟨low, high⟩
  have entered := State.opened_perm slot b w vehicle seller
  refine ⟨(entered.map _).nodup_iff.mpr (List.nodup_cons.mpr ⟨fun carried => ?_, distinct⟩), fun u hu => ?_,
    nextNumber_range new⟩
  · obtain ⟨u, hu, same⟩ := List.mem_map.mp carried
    exact State.findTicket_eq_none.mp unused u hu same
  · rcases List.mem_cons.mp (entered.mem_iff.mp hu) with rfl | held
    · exact new
    · exact range u held

theorem Delivered.keeps_numbers {s u : State} {b : BridgeId} {x : Weighing} (h : Delivered s b x u) (tables : s.TablesSound)
    (sound : s.NumbersSound) : u.NumbersSound := by
  cases h with
  | cleared => exact (FewerNumbers.clearTaskMark s x.task).keeps sound
  | opened vehicle seller _ slot _ => exact opened_numbersSound tables sound slot b _ vehicle seller
  | dropped _ found _ _ => exact putTicket_numbersSound found rfl sound
  | closed _ found _ _ => exact putTicket_numbersSound found rfl sound
  | stored _ _ _ => exact sound

theorem MainLost.fewerNumbers {s t : State} (h : MainLost s t) : FewerNumbers s t :=
  FewerNumbers.map h.tickets (fun _ => rfl) h.ticketCounter

theorem entries_none (n : Nat) : entries (List.replicate n (none : Option Ticket)) = [] := by
  rw [List.eq_nil_iff_forall_not_mem]
  intro t ht
  have := List.eq_of_mem_replicate (mem_entries.mp ht)
  contradiction

theorem backupDefaults_entries (s : State) : entries s.backupDefaults.tickets = [] := entries_none _

theorem backupDefaults_numbersSound (s : State) : s.backupDefaults.NumbersSound := by
  unfold State.NumbersSound
  rw [backupDefaults_entries]
  exact ⟨List.nodup_nil, by simp, le_refl 1, (by decide : 1 ≤ 999999)⟩

theorem Deed.keeps_numbers {s t : State} (h : Deed s t) (tables : s.TablesSound) (sound : s.NumbersSound) :
    t.NumbersSound := by
  cases h with
  | idle => exact sound
  | @claimed p b task u cls _ _ _ _ marked =>
    cases marked with
    | free _ => exact sound
    | @ticket n i t _ found _ _ _ =>
      exact putTicket_numbersSound (t' := { t with pending := some b }) found rfl sound
  | ended _ _ _ _ _ delivered => exact delivered.keeps_numbers tables sound
  | unclaimed _ _ => exact sound
  | revised found revision => exact putTicket_numbersSound found revision.number sound
  | @dated now _ =>
    exact FewerNumbers.keeps (s := s)
      (FewerNumbers.map (g := fun u => u.dated now.date) rfl (fun u => (dated_fields now.date u).1) rfl) sound
  | ticked _ => exact sound
  | freed => exact FewerNumbers.keeps { numbers := (entries_filter _ s.tickets ▸ List.filter_sublist).map _ } sound
  | limited _ _ _ => exact sound
  | validFor _ _ => exact sound
  | headed _ _ => exact sound
  | papered _ _ _ => exact sound
  | graded _ => exact sound
  | untared _ => exact sound
  | lost main => exact main.fewerNumbers.keeps sound
  | defaulted => exact backupDefaults_numbersSound _

theorem Quiet.keeps_numbers {s t : State} (q : Quiet s t) (sound : s.NumbersSound) : t.NumbersSound := by
  unfold State.NumbersSound
  rw [q.tickets, q.ticketCounter]
  exact sound

end Sys2Proof.Machine
end

section
/-! PROOFS. Every step keeps the requests in flight, the pending weighings and the pending marks in agreement (01 R12, 02 R34,
R35, 10 R190). -/

namespace Sys2Proof.Machine

/-! ### Marks -/

/-- 02 R34: the LOADED ticket of number `n` is marked as pending at bridge `b`. -/
def State.Marks (s : State) (n : Nat) (b : BridgeId) : Prop :=
  ∃ t ∈ entries s.tickets, t.number = n ∧ t.pending = some b ∧ t.state = .loaded

/-- 02 R34: only a LOADED ticket is marked. -/
def State.MarksLoaded (s : State) : Prop := ∀ t ∈ entries s.tickets, t.pending.isSome = true → t.state = .loaded

/-- `ClaimsSound`, law by law. -/
structure State.Claims (s : State) : Prop where
  flying : ∀ p f, (s.console p).inFlight = some f → ∃ x, (s.bridge f.bridge).weighing = some x ∧ x.console = p
  live : ∀ b x, (s.bridge b).weighing = some x → (s.bridge b).link = .live
  owned : ∀ b x, (s.bridge b).weighing = some x → ∃ cls, (s.console x.console).inFlight = some ⟨cls, b⟩
  marked : ∀ b x n, (s.bridge b).weighing = some x → x.task.ticket = some n → s.Marks n b
  loaded : s.MarksLoaded
  named : ∀ n b, s.Marks n b → ∃ x, (s.bridge b).weighing = some x ∧ x.task.ticket = some n
  rested : s.inReset = true → ∀ b, (s.bridge b).weighing = none

theorem State.claimsSound_iff (s : State) : s.ClaimsSound ↔ s.Claims := by
  constructor
  · rintro ⟨flying, weighings, marks, rested⟩
    refine ⟨flying, fun b x h => (weighings b x h).1, fun b x h => (weighings b x h).2.1,
      fun b x n h names => (weighings b x h).2.2 n names, fun t ht pending => ?_, ?_, rested⟩
    · obtain ⟨b, hb⟩ := Option.isSome_iff_exists.mp pending
      exact (marks t ht b hb).1
    · rintro n b ⟨t, ht, rfl, pending, -⟩
      exact (marks t ht b pending).2
  · intro h
    refine ⟨h.flying, fun b x pending => ⟨h.live b x pending, h.owned b x pending, fun n => h.marked b x n pending⟩,
      fun t ht b pending => ?_, h.rested⟩
    have loaded := h.loaded t ht (by simp [pending])
    exact ⟨loaded, h.named t.number b ⟨t, ht, rfl, pending, loaded⟩⟩

/-- 01 R12, 02 R35: a weighing names at most the one ticket that is marked at its bridge. -/
theorem State.Distinct.mark_bridge {s : State} (distinct : s.Distinct) {n : Nat} {b c : BridgeId}
    (hb : s.Marks n b) (hc : s.Marks n c) : b = c := by
  obtain ⟨t, ht, number, pending, -⟩ := hb
  obtain ⟨u, hu, number', pending', -⟩ := hc
  obtain rfl := distinct.unique ht hu (number.trans number'.symm)
  exact Option.some.inj (pending.symm.trans pending')

/-! ### Deeds that no claim meets -/

/-- Flights, weighings and marks stay as they are. -/
structure SameClaims (s t : State) : Prop where
  inReset : t.inReset = s.inReset := by rfl
  flights : ∀ p, (t.console p).inFlight = (s.console p).inFlight := by intro p; rfl
  weighings : ∀ b, (t.bridge b).weighing = (s.bridge b).weighing := by intro b; rfl
  links : ∀ b, (s.bridge b).weighing.isSome = true → (s.bridge b).link = .live → (t.bridge b).link = .live := by
    intro b _ live; exact live
  marks : ∀ n b, t.Marks n b ↔ s.Marks n b := by intro n b; exact Iff.rfl
  loaded : s.MarksLoaded → t.MarksLoaded := by intro h; exact h

theorem SameClaims.keeps {s t : State} (same : SameClaims s t) (h : s.Claims) : t.Claims where
  flying p f flight := by
    obtain ⟨x, pending, owner⟩ := h.flying p f (by rw [← same.flights]; exact flight)
    exact ⟨x, by rw [same.weighings]; exact pending, owner⟩
  live b x pending := by
    rw [same.weighings] at pending
    exact same.links b (by simp [pending]) (h.live b x pending)
  owned b x pending := by
    rw [same.flights]
    exact h.owned b x (by rw [← same.weighings]; exact pending)
  marked b x n pending names := (same.marks n b).mpr (h.marked b x n (by rw [← same.weighings]; exact pending) names)
  loaded := same.loaded h.loaded
  named n b mark := by
    rw [same.weighings]
    exact h.named n b ((same.marks n b).mp mark)
  rested reset b := by
    rw [same.weighings]
    exact h.rested (by rw [← same.inReset]; exact reset) b

theorem Marks_congr {s t : State} (tickets : t.tickets = s.tickets) (n : Nat) (b : BridgeId) : t.Marks n b ↔ s.Marks n b := by
  unfold State.Marks
  rw [tickets]

theorem Quiet.sameClaims {s t : State} (q : Quiet s t) : SameClaims s t where
  inReset := q.inReset
  flights := q.flights
  weighings b := (q.bridges b).weighing
  links b := (q.bridges b).live
  marks := Marks_congr q.tickets
  loaded h := by unfold State.MarksLoaded; rw [q.tickets]; exact h

/-- A ticket revised keeps its mark; and it stays LOADED, if it was LOADED with a mark. -/
theorem Revised.claims {s : State} {t t' : Ticket} (h : Revised s t t') :
    t'.pending = t.pending ∧ (t.pending.isSome = true → t.state = .loaded → t'.state = .loaded) := by
  cases h with
  | party _ _ => exact ⟨rfl, fun _ loaded => loaded⟩
  | deducted _ _ free _ => exact ⟨rfl, fun marked => by simp [free] at marked⟩
  | voided free _ _ => exact ⟨rfl, fun marked => by simp [free] at marked⟩
  | paid _ due => exact ⟨rfl, fun _ loaded => by simp [loaded] at due⟩
  | recorded kind serial =>
    obtain ⟨-, pending, state⟩ := recordSerial_fields kind serial t
    exact ⟨pending, fun _ loaded => state.trans loaded⟩
  | closed _ _ _ _ free _ _ => exact ⟨free.symm, fun marked => by simp [free] at marked⟩

/-- A ticket replaced by one of the same number and mark. -/
theorem SameClaims.putTicket {s : State} (distinct : s.Distinct) {n i : Nat} {t t' : Ticket}
    (found : s.findTicket n = some (i, t)) (number : t'.number = t.number) (pending : t'.pending = t.pending)
    (loaded : t.pending.isSome = true → t.state = .loaded → t'.state = .loaded) (h : s.MarksLoaded) :
    SameClaims s (s.putTicket i t') := by
  have held := State.findTicket_mem found
  have is : t.number = n := State.findTicket_number found
  refine { marks := fun m b => ⟨?_, ?_⟩, loaded := fun _ u hu marked => ?_ }
  · rintro ⟨u, hu, same, mark, state⟩
    rcases (State.mem_putTicket distinct found).mp hu with rfl | ⟨old, -⟩
    · rw [pending] at mark
      exact ⟨t, held, number.symm.trans same, mark, h t held (by simp [mark])⟩
    · exact ⟨u, old, same, mark, state⟩
  · rintro ⟨u, hu, same, mark, state⟩
    by_cases this : u.number = n
    · obtain rfl := distinct.unique hu held (this.trans is.symm)
      exact ⟨t', (State.mem_putTicket distinct found).mpr (.inl rfl), number.trans same, pending.trans mark,
        loaded (by simp [mark]) state⟩
    · exact ⟨u, (State.mem_putTicket distinct found).mpr (.inr ⟨hu, this⟩), same, mark, state⟩
  · rcases (State.mem_putTicket distinct found).mp hu with rfl | ⟨old, -⟩
    · rw [pending] at marked
      exact loaded marked (h t held marked)
    · exact h u old marked

/-- 09 R174: a dated ticket keeps its number, its mark and its state. -/
theorem SameClaims.dated (s : State) (now : Stamp) : SameClaims s
    { s with clock := ⟨now, 0, true⟩, tickets := s.tickets.map (Option.map fun t => t.dated now.date) } := by
  refine { marks := fun n b => ?_, loaded := fun h u hu marked => ?_ }
  · simp only [State.Marks, entries_map, List.mem_map, exists_exists_and_eq_and]
    refine exists_congr fun t => and_congr_right fun _ => ?_
    obtain ⟨number, pending, state⟩ := dated_fields now.date t
    rw [number, pending, state]
  · rw [entries_map] at hu
    obtain ⟨t, ht, rfl⟩ := List.mem_map.mp hu
    obtain ⟨-, pending, state⟩ := dated_fields now.date t
    rw [state]
    exact h t ht (by rw [← pending]; exact marked)

/-- 02 R43: a close frees no LOADED ticket. -/
theorem SameClaims.freed (s : State) : SameClaims s { s with tickets := freeFinished s.tickets } := by
  have kept : entries (freeFinished s.tickets) = (entries s.tickets).filter fun t => !t.finished := entries_filter _ _
  refine { marks := fun n b => ?_, loaded := fun h u hu marked => ?_ }
  · simp only [State.Marks, kept, List.mem_filter]
    constructor
    · rintro ⟨t, ⟨ht, -⟩, mark⟩
      exact ⟨t, ht, mark⟩
    · rintro ⟨t, ht, number, pending, state⟩
      exact ⟨t, ⟨ht, by simp [Ticket.finished, state]⟩, number, pending, state⟩
  · rw [kept] at hu
    exact h u (List.mem_of_mem_filter hu) marked

/-! ### A weighing taken (01 R13, 10 R190) -/

/-- 01 R13: the mark that a weighing sets is the one mark that comes to the table. -/
theorem Marked.marks {s u : State} {b : BridgeId} {task : WeighTask} (distinct : s.Distinct) (h : Marked s b task u)
    (n : Nat) (c : BridgeId) : u.Marks n c ↔ s.Marks n c ∨ (task.ticket = some n ∧ c = b) := by
  cases h with
  | free free => simp [free]
  | @ticket m i t names found state unmarked _ =>
    have is : t.number = m := State.findTicket_number found
    constructor
    · rintro ⟨u, hu, number, mark, loaded⟩
      rcases (State.mem_putTicket distinct found).mp hu with rfl | ⟨old, -⟩
      · exact .inr ⟨names.trans (congrArg some (is.symm.trans number)), (Option.some.inj mark).symm⟩
      · exact .inl ⟨u, old, number, mark, loaded⟩
    · rintro (⟨u, hu, number, mark, loaded⟩ | ⟨same, rfl⟩)
      · refine ⟨u, (State.mem_putTicket distinct found).mpr (.inr ⟨hu, fun this => ?_⟩), number, mark, loaded⟩
        obtain rfl := distinct.unique hu (State.findTicket_mem found) (this.trans is.symm)
        rw [unmarked] at mark
        contradiction
      · exact ⟨_, (State.mem_putTicket distinct found).mpr (.inl rfl),
          is.trans (Option.some.inj (names.symm.trans same)), rfl, state⟩

theorem Marked.loaded {s u : State} {b : BridgeId} {task : WeighTask} (distinct : s.Distinct) (h : Marked s b task u)
    (loaded : s.MarksLoaded) : u.MarksLoaded := by
  cases h with
  | free _ => exact loaded
  | ticket _ found state _ _ =>
    intro v hv marked
    rcases (State.mem_putTicket distinct found).mp hv with rfl | ⟨old, -⟩
    · exact state
    · exact loaded v old marked

theorem Marked.consoles {s u : State} {b : BridgeId} {task : WeighTask} (h : Marked s b task u) :
    u.consoles = s.consoles := by
  cases h <;> rfl

section Claimed

variable {s u : State} {b : BridgeId} {task : WeighTask} (marked : Marked s b task u) (p : Port) (cls : Byte)
include marked

theorem Marked.claimed_inFlight (q : Port) : (((u.startWeighing b p task).beginFlight p cls b).console q).inFlight =
    if q = p then some ⟨cls, b⟩ else (s.console q).inFlight := by
  rw [State.console, State.beginFlight_consoles, State.startWeighing_consoles, marked.consoles, Four.get_set]
  split <;> rfl

theorem Marked.claimed_weighing (c : BridgeId) : (((u.startWeighing b p task).beginFlight p cls b).bridge c).weighing =
    if c = b then some ⟨p, task, (s.bridge b).config.motionTimeout⟩ else (s.bridge c).weighing := by
  rw [State.bridge, marked.claimed_bridges, Pair.get_set]
  split <;> rfl

theorem Marked.claimed_link (c : BridgeId) :
    (((u.startWeighing b p task).beginFlight p cls b).bridge c).link = (s.bridge c).link := by
  rw [State.bridge, marked.claimed_bridges, Pair.get_set]
  split
  · rename_i at_b
    rw [at_b]
  · rfl

/-- 01 R12, R13, 10 R190: a weighing taken at a free bridge, its request from a free console, its ticket unmarked. -/
theorem Marked.claims (distinct : s.Distinct) (awake : s.inReset = false) (grounded : (s.console p).inFlight = none)
    (live : (s.bridge b).link = .live) (free : (s.bridge b).weighing = none) (h : s.Claims) :
    ((u.startWeighing b p task).beginFlight p cls b).Claims where
  flying q f flight := by
    rw [marked.claimed_inFlight] at flight
    rw [marked.claimed_weighing]
    split at flight
    · rename_i at_p
      obtain rfl := Option.some.inj flight
      exact ⟨_, if_pos rfl, at_p.symm⟩
    · obtain ⟨x, pending, owner⟩ := h.flying q f flight
      have other : f.bridge ≠ b := by rintro at_b; rw [at_b, free] at pending; contradiction
      exact ⟨x, by rw [if_neg other]; exact pending, owner⟩
  live c x pending := by
    rw [marked.claimed_weighing] at pending
    rw [marked.claimed_link]
    split at pending
    · rename_i at_b; rw [at_b]; exact live
    · exact h.live c x pending
  owned c x pending := by
    rw [marked.claimed_weighing] at pending
    rw [marked.claimed_inFlight]
    split at pending
    · rename_i at_b
      obtain rfl := Option.some.inj pending
      exact ⟨cls, by rw [if_pos rfl, at_b]⟩
    · obtain ⟨k, flight⟩ := h.owned c x pending
      have other : x.console ≠ p := by rintro at_p; rw [at_p, grounded] at flight; contradiction
      exact ⟨k, by rw [if_neg other]; exact flight⟩
  marked c x n pending names := by
    rw [marked.claimed_weighing] at pending
    refine (marked.marks distinct n c).mpr ?_
    split at pending
    · rename_i at_b
      obtain rfl := Option.some.inj pending
      exact .inr ⟨names, at_b⟩
    · exact .inl (h.marked c x n pending names)
  loaded := show u.MarksLoaded from marked.loaded distinct h.loaded
  named n c mark := by
    rw [marked.claimed_weighing]
    rcases (marked.marks distinct n c).mp mark with old | ⟨names, at_b⟩
    · obtain ⟨x, pending, names⟩ := h.named n c old
      have other : c ≠ b := by rintro rfl; rw [free] at pending; contradiction
      exact ⟨x, by rw [if_neg other]; exact pending, names⟩
    · exact ⟨_, if_pos at_b, names⟩
  rested reset := by
    have still : s.inReset = true := marked.inReset ▸ reset
    rw [awake] at still
    contradiction

end Claimed

/-! ### A weighing ended (01 R14 to R18, 02 R34) -/

/-- The marks once the ticket of number `n` was replaced by one without a mark. -/
theorem marks_putTicket_free {s : State} (distinct : s.Distinct) {n i : Nat} {t t' : Ticket}
    (found : s.findTicket n = some (i, t)) (free : t'.pending = none) (m : Nat) (c : BridgeId) :
    (s.putTicket i t').Marks m c ↔ s.Marks m c ∧ n ≠ m := by
  constructor
  · rintro ⟨u, hu, rfl, mark, loaded⟩
    rcases (State.mem_putTicket distinct found).mp hu with rfl | ⟨old, other⟩
    · rw [free] at mark; contradiction
    · exact ⟨⟨u, old, rfl, mark, loaded⟩, other.symm⟩
  · rintro ⟨⟨u, hu, rfl, mark, loaded⟩, other⟩
    exact ⟨u, (State.mem_putTicket distinct found).mpr (.inr ⟨hu, other.symm⟩), rfl, mark, loaded⟩

theorem marksLoaded_putTicket_free {s : State} (distinct : s.Distinct) {n i : Nat} {t t' : Ticket}
    (found : s.findTicket n = some (i, t)) (free : t'.pending = none) (loaded : s.MarksLoaded) :
    (s.putTicket i t').MarksLoaded := by
  intro u hu marked
  rcases (State.mem_putTicket distinct found).mp hu with rfl | ⟨old, -⟩
  · simp [free] at marked
  · exact loaded u old marked

theorem mem_opened {s : State} {i : Nat} (slot : s.freeSlot = some i) {b : BridgeId} {w : Nat} {vehicle : Option Text}
    {seller : Option Nat} {u : Ticket} (hu : u ∈ entries (s.opened i b w vehicle seller).tickets) :
    (u.pending = none ∧ u.weighings.length = 1) ∨ u ∈ entries s.tickets := by
  rcases List.mem_cons.mp ((State.opened_perm slot b w vehicle seller).mem_iff.mp hu) with rfl | old
  · exact .inl ⟨rfl, rfl⟩
  · exact .inr old

/-- 02 R34: the end of a weighing clears the mark of the ticket it names, and no other. -/
theorem Delivered.marks {s u : State} {b : BridgeId} {x : Weighing} (distinct : s.Distinct) (h : Delivered s b x u)
    (m : Nat) (c : BridgeId) : u.Marks m c ↔ s.Marks m c ∧ x.task.ticket ≠ some m := by
  cases h with
  | cleared =>
    cases names : x.task.ticket with
    | none => simp [clearTaskMark_free names]
    | some n =>
      rw [clearTaskMark_named names]
      rcases s.clearMark_cases n with ⟨missing, h⟩ | ⟨i, t, found, h⟩
      · rw [h]
        refine ⟨fun mark => ⟨mark, ?_⟩, And.left⟩
        rintro same
        obtain rfl := Option.some.inj same
        obtain ⟨t, ht, number, -⟩ := mark
        exact State.findTicket_eq_none.mp missing t ht number
      · rw [h, marks_putTicket_free distinct found rfl]
        simp
  | opened vehicle seller free slot _ =>
    simp only [free, ne_eq, reduceCtorEq, not_false_eq_true, and_true]
    constructor
    · rintro ⟨u, hu, number, mark, loaded⟩
      rcases mem_opened slot hu with ⟨unmarked, -⟩ | old
      · rw [unmarked] at mark; contradiction
      · exact ⟨u, old, number, mark, loaded⟩
    · rintro ⟨u, hu, mark⟩
      exact ⟨u, (State.opened_perm slot b _ vehicle seller).mem_iff.mpr (List.mem_cons_of_mem _ hu), mark⟩
  | dropped task found _ _ =>
    rw [marks_putTicket_free distinct found rfl, task]
    simp [WeighTask.ticket]
  | closed task found _ _ =>
    rw [marks_putTicket_free distinct found rfl, task]
    simp [WeighTask.ticket]
  | stored _ free _ => exact ⟨fun mark => ⟨mark, by simp [free]⟩, And.left⟩

theorem Delivered.loaded {s u : State} {b : BridgeId} {x : Weighing} (distinct : s.Distinct) (h : Delivered s b x u)
    (loaded : s.MarksLoaded) : u.MarksLoaded := by
  cases h with
  | cleared =>
    cases names : x.task.ticket with
    | none => rw [clearTaskMark_free names]; exact loaded
    | some n =>
      rw [clearTaskMark_named names]
      rcases s.clearMark_cases n with ⟨-, h⟩ | ⟨i, t, found, h⟩
      · rw [h]; exact loaded
      · rw [h]; exact marksLoaded_putTicket_free distinct found rfl loaded
  | opened vehicle seller _ slot _ =>
    intro u hu marked
    rcases mem_opened slot hu with ⟨unmarked, -⟩ | old
    · simp [unmarked] at marked
    · exact loaded u old marked
  | dropped _ found _ _ => exact marksLoaded_putTicket_free distinct found rfl loaded
  | closed _ found _ _ => exact marksLoaded_putTicket_free distinct found rfl loaded
  | stored _ _ _ => exact loaded

theorem Delivered.consoles {s u : State} {b : BridgeId} {x : Weighing} (h : Delivered s b x u) : u.consoles = s.consoles := by
  cases h with
  | cleared => rw [State.clearTaskMark_consoles]
  | opened _ _ _ _ _ => rfl
  | dropped _ _ _ _ => rfl
  | closed _ _ _ _ => rfl
  | stored _ _ _ => rfl

section Ended

variable {s u : State} {b : BridgeId} {x : Weighing} (delivered : Delivered s b x u) (p : Port) {br : Bridge}
include delivered

theorem Delivered.ended_inFlight (q : Port) : (((u.setBridge b br).unflown p).console q).inFlight =
    if q = p then none else (s.console q).inFlight := by
  rw [State.unflown, State.console_setConsole]
  split
  · rfl
  · rw [State.console, State.setBridge_consoles, delivered.consoles]; rfl

theorem Delivered.ended_bridge (c : BridgeId) : ((u.setBridge b br).unflown p).bridge c = if c = b then br else s.bridge c := by
  rw [State.bridge, delivered.ended_bridges, Pair.get_set]
  rfl

/-- 01 R14, R17, R18, 10 R190: a weighing ended, its request answered and its mark cleared. -/
theorem Delivered.claims (distinct : s.Distinct) (awake : s.inReset = false) (pending : (s.bridge b).weighing = some x)
    (owner : x.console = p ∨ ∃ cls, (s.console p).inFlight = some ⟨cls, b⟩) (free : br.weighing = none) (h : s.Claims) :
    ((u.setBridge b br).unflown p).Claims := by
  have owner : x.console = p := by
    rcases owner with same | ⟨cls, flight⟩
    · exact same
    · obtain ⟨y, this, console⟩ := h.flying p _ flight
      rw [Option.some.inj (pending.symm.trans this), console]
  have elsewhere {c : BridgeId} {y : Weighing} (here : (((u.setBridge b br).unflown p).bridge c).weighing = some y) :
      c ≠ b ∧ (s.bridge c).weighing = some y := by
    rw [delivered.ended_bridge] at here
    split at here
    · rw [free] at here; contradiction
    · exact ⟨‹_›, here⟩
  refine ⟨fun q f flight => ?_, fun c y here => ?_, fun c y here => ?_, fun c y n here names => ?_,
    show u.MarksLoaded from delivered.loaded distinct h.loaded, fun n c mark => ?_, fun reset => ?_⟩
  · rw [delivered.ended_inFlight] at flight
    rw [delivered.ended_bridge]
    split at flight
    · contradiction
    · rename_i other
      obtain ⟨y, here, console⟩ := h.flying q f flight
      have away : f.bridge ≠ b := by
        rintro at_b
        rw [at_b, pending] at here
        obtain rfl := Option.some.inj here
        exact other (console.symm.trans owner)
      exact ⟨y, by rw [if_neg away]; exact here, console⟩
  · obtain ⟨away, old⟩ := elsewhere here
    rw [delivered.ended_bridge, if_neg away]
    exact h.live c y old
  · obtain ⟨away, old⟩ := elsewhere here
    obtain ⟨cls, flight⟩ := h.owned c y old
    have other : y.console ≠ p := by
      rintro at_p
      obtain ⟨k, own⟩ := h.owned b x pending
      rw [owner, ← at_p, flight] at own
      exact away (InFlight.mk.inj (Option.some.inj own)).2
    exact ⟨cls, by rw [delivered.ended_inFlight, if_neg other]; exact flight⟩
  · obtain ⟨away, old⟩ := elsewhere here
    have mark := h.marked c y n old names
    exact (delivered.marks distinct n c).mpr ⟨mark, fun same => away (distinct.mark_bridge mark (h.marked b x n pending same))⟩
  · obtain ⟨old, other⟩ := (delivered.marks distinct n c).mp mark
    obtain ⟨y, here, names⟩ := h.named n c old
    have away : c ≠ b := by
      rintro rfl
      obtain rfl := Option.some.inj (pending.symm.trans here)
      exact other names
    exact ⟨y, by rw [delivered.ended_bridge, if_neg away]; exact here, names⟩
  · have still : s.inReset = true := delivered.inReset ▸ reset
    rw [awake] at still
    contradiction

end Ended

/-! ### Resets (11 R202, R203) -/

/-- Nothing in flight, nothing pending, nothing marked. -/
theorem State.Claims.of_idle {s : State} (flights : ∀ p, (s.console p).inFlight = none)
    (weighings : ∀ b, (s.bridge b).weighing = none) (marks : ∀ t ∈ entries s.tickets, t.pending = none) : s.Claims where
  flying p f flight := by rw [flights] at flight; contradiction
  live b x pending := by rw [weighings] at pending; contradiction
  owned b x pending := by rw [weighings] at pending; contradiction
  marked b x n pending := by rw [weighings] at pending; contradiction
  loaded t ht marked := by simp [marks t ht] at marked
  named n b mark := by
    obtain ⟨t, ht, -, pending, -⟩ := mark
    rw [marks t ht] at pending
    contradiction
  rested _ := weighings

theorem MainLost.claims {s t : State} (main : MainLost s t) : t.Claims := by
  refine .of_idle main.flights (fun b => ?_) fun u hu => ?_
  · obtain ⟨_, _, h⟩ := main.bridges b
    rw [h]; rfl
  · rw [main.tickets, clearMarks, entries_map] at hu
    obtain ⟨v, -, rfl⟩ := List.mem_map.mp hu
    rfl

/-- 11 R203: the backup domain at its power-on values holds no ticket; in reset nothing is in flight. -/
theorem backupDefaults_claims {s : State} (h : s.Claims) (reset : s.inReset = true) : s.backupDefaults.Claims := by
  have weighings : ∀ b, (s.bridge b).weighing = none := h.rested reset
  refine .of_idle (fun p => ?_) (fun b => ?_) (by rw [backupDefaults_entries]; simp)
  · cases flight : (s.console p).inFlight with
    | none => exact flight
    | some f =>
      obtain ⟨x, pending, -⟩ := h.flying p f flight
      rw [weighings] at pending
      contradiction
  · rw [State.bridge, State.backupDefaults, Pair.get_ofFn]
    exact weighings b

theorem SameClaims.assertBy {s : State} (reset : s.inReset = true) (cause : ResetCause) : SameClaims s (s.assertBy cause) := by
  have still : (s.assertBy cause).inReset = s.inReset := by rw [reset, assertBy_inReset]
  cases cause
  · exact { inReset := still }
  · exact { inReset := still }

/-! ### Every step -/

theorem Deed.keeps_claims {s t : State} (deed : Deed s t) (distinct : s.Distinct) (h : s.Claims) : t.Claims := by
  cases deed with
  | idle => exact h
  | claimed cls awake grounded live free marked => exact marked.claims _ cls distinct awake grounded live free h
  | ended awake pending owner free _ delivered => exact delivered.claims _ distinct awake pending owner free h
  | unclaimed flight free =>
    obtain ⟨x, pending, -⟩ := h.flying _ _ flight
    rw [free] at pending
    contradiction
  | revised found revision =>
    obtain ⟨pending, loaded⟩ := revision.claims
    exact (SameClaims.putTicket distinct found revision.number pending loaded h.loaded).keeps h
  | dated _ => exact (SameClaims.dated s _).keeps h
  | freed => exact (SameClaims.freed s).keeps h
  | ticked _ => exact SameClaims.keeps (s := s) {} h
  | limited _ _ _ => exact SameClaims.keeps (s := s) {} h
  | validFor _ _ => exact SameClaims.keeps (s := s) {} h
  | headed _ _ => exact SameClaims.keeps (s := s) {} h
  | papered _ _ _ => exact SameClaims.keeps (s := s) {} h
  | graded _ => exact SameClaims.keeps (s := s) {} h
  | untared _ => exact SameClaims.keeps (s := s) {} h
  | lost main => exact main.claims
  | defaulted =>
    split
    · rename_i reset
      exact backupDefaults_claims ((SameClaims.assertBy reset .vcore).keeps h) (assertBy_inReset s .vcore)
    · exact backupDefaults_claims (loseMain_mainLost s .vcore).claims (assertBy_inReset _ .vcore)

theorem step_keeps_numbers {s t : State} (h : step s = .next t) (tables : s.TablesSound) (sound : s.NumbersSound) :
    t.NumbersSound := by
  obtain ⟨s₀, t₀, before, deed, rest⟩ := step_course h
  exact rest.keeps_numbers (deed.keeps_numbers (before.sameTables.keeps tables) (before.keeps_numbers sound))

theorem step_keeps_claims {s t : State} (h : step s = .next t) (numbers : s.NumbersSound) (sound : s.ClaimsSound) :
    t.ClaimsSound := by
  obtain ⟨s₀, t₀, before, deed, rest⟩ := step_course h
  have distinct : s₀.Distinct := (before.keeps_numbers numbers).1
  exact (t.claimsSound_iff).mpr (rest.sameClaims.keeps (deed.keeps_claims distinct
    (before.sameClaims.keeps ((s.claimsSound_iff).mp sound))))

/-- Settles O54: both laws through the course of the step. -/
theorem stepsKeepNumbersAndClaims : Obligations.StepsKeepNumbersAndClaims :=
  fun _ _ tables numbers h => ⟨step_keeps_numbers h tables numbers, step_keeps_claims h numbers⟩

end Sys2Proof.Machine
end

section
/-! PROOFS. The ticket record (02 R23, R24, 04 R66 to R72): what its weighings, its lines and its settlement say, and that an
appended weighing, a settlement and a re-settlement keep it. -/

namespace Sys2Proof.Machine

/-! ### What a sound ticket is -/

/-- 02 R24: the weighings and the nets of a ticket, closed by its last weighing or not. -/
structure WeighingsSound (closed : Bool) (weighings : List WeighEntry) (lines : List Line) : Prop where
  weights : ∀ w ∈ weighings, w.weight ≤ 200000
  few : weighings.length ≤ 8
  first : weighings.head?.map (·.kind) = some .gross
  kinds : kindsAgree closed ((weighings.drop 1).map (·.kind)) = true
  nets : netsAgree weighings lines = true
  room : closed = true ∨ weighings.length ≤ 7

/-- 04 R69 to R72: the settlement of a ticket follows from its lines, and its state from the settlement. -/
structure FiguresSound (lines : List Line) (state : TicketState) (f : SettlementFigures) : Prop where
  computed : ∀ l ∈ lines, l.computed = true
  closed : state ≠ .loaded
  exact : f.exact = (lines.map fun l => (l.settlement.map fun f => f.payable * f.price).getD 0).sum
  amount : f.amount = f.exact / 100
  hold : 0 < f.holdDays ↔ lines.any Line.restricted = true
  held : state = .held → 0 < f.holdDays
  settled : state = .settled → f.holdDays = 0
  release : f.release.isSome = true → 0 < f.holdDays

/-- `Ticket.Sound`, part by part. -/
structure Ticket.Parts (t : Ticket) : Prop where
  weighed : WeighingsSound t.settlement.isSome t.weighings t.lines
  unsettled : t.settlement = none → (∀ l ∈ t.lines, l.settlement = none) ∧ (t.state = .loaded ∨ t.state = .void)
  figured : ∀ x, t.settlement = some x → FiguresSound t.lines t.state x.figures
  paid : t.payment.isSome = true ↔ t.state = .paid
  voided : t.void.isSome = true ↔ t.state = .void

theorem Ticket.sound_iff (t : Ticket) : t.Sound = true ↔ t.Parts := by
  have part (o r : Bool) : (o == r) = true ↔ (o = true ↔ r = true) := by cases o <;> cases r <;> decide
  cases settlement : t.settlement with
  | none =>
    simp only [Ticket.Sound, settlement, Option.isSome_none, Bool.and_eq_true, Bool.false_or, List.all_eq_true,
      decide_eq_true_eq, beq_iff_eq, part, Bool.or_eq_true, Option.isNone_iff_eq_none]
    constructor
    · rintro ⟨⟨⟨⟨⟨⟨⟨⟨weights, few⟩, first⟩, kinds⟩, nets⟩, room⟩, unsettled, state⟩, paid⟩, voided⟩
      exact ⟨by rw [settlement]; exact ⟨weights, few, first, kinds, nets, .inr room⟩, fun _ => ⟨unsettled, state⟩,
        fun x h => by simp [settlement] at h, by simpa using paid, by simpa using voided⟩
    · rintro ⟨weighed, unsettled, -, paid, voided⟩
      rw [settlement] at weighed
      obtain ⟨lines, state⟩ := unsettled settlement
      exact ⟨⟨⟨⟨⟨⟨⟨⟨weighed.weights, weighed.few⟩, weighed.first⟩, weighed.kinds⟩, weighed.nets⟩,
        by simpa using weighed.room⟩, lines, state⟩, by simpa using paid⟩, by simpa using voided⟩
  | some x =>
    simp only [Ticket.Sound, settlement, Option.isSome_some, Bool.and_eq_true, Bool.true_or, and_true, List.all_eq_true,
      decide_eq_true_eq, beq_iff_eq, part, Bool.or_eq_true, bne_iff_ne, Option.isNone_iff_eq_none]
    constructor
    · rintro ⟨⟨⟨⟨⟨⟨⟨weights, few⟩, first⟩, kinds⟩, nets⟩,
        ⟨⟨⟨⟨⟨⟨computed, closed⟩, exact⟩, amount⟩, hold⟩, held⟩, settled⟩, release⟩, paid⟩, voided⟩
      refine ⟨by rw [settlement]; exact ⟨weights, few, first, kinds, nets, .inl rfl⟩,
        fun h => by simp [settlement] at h, fun y h => ?_, by simpa using paid, by simpa using voided⟩
      obtain rfl : x = y := by simpa [settlement] using h
      exact ⟨computed, closed, exact, amount, hold, fun h => held.resolve_left (not_not.mpr h),
        fun h => settled.resolve_left (not_not.mpr h),
        fun h => release.resolve_left (Option.ne_none_iff_isSome.mpr h)⟩
    · rintro ⟨weighed, -, figured, paid, voided⟩
      rw [settlement] at weighed
      have f := figured x settlement
      refine ⟨⟨⟨⟨⟨⟨⟨weighed.weights, weighed.few⟩, weighed.first⟩, weighed.kinds⟩, weighed.nets⟩,
        ⟨⟨⟨⟨⟨⟨f.computed, f.closed⟩, f.exact⟩, f.amount⟩, f.hold⟩, ?_⟩, ?_⟩, ?_⟩, by simpa using paid⟩,
        by simpa using voided⟩
      · exact or_iff_not_imp_left.mpr fun h => f.held (not_not.mp h)
      · exact or_iff_not_imp_left.mpr fun h => f.settled (not_not.mp h)
      · exact or_iff_not_imp_left.mpr fun h => f.release (Option.ne_none_iff_isSome.mp h)

/-! ### An appended weighing (02 R24, R32, R33) -/

theorem kindsAgree_append {ks : List WeighKind} (h : kindsAgree false ks = true) {closed : Bool} {k : WeighKind}
    (last : kindsAgree closed [k] = true) : kindsAgree closed (ks ++ [k]) = true := by
  induction ks with
  | nil => exact last
  | cons a rest ih =>
    cases rest with
    | nil =>
      simp only [kindsAgree, Bool.false_eq_true, if_false] at h
      simp only [List.cons_append, List.nil_append, kindsAgree, h, Bool.true_and]
      exact last
    | cons b rest =>
      simp only [kindsAgree, Bool.and_eq_true] at h
      obtain ⟨drop, inner⟩ := h
      simp only [List.cons_append, kindsAgree, drop, Bool.true_and]
      exact ih inner

theorem netsAgree_append {ws : List WeighEntry} {ls : List Line} (h : netsAgree ws ls = true) {last w : WeighEntry}
    {l : Line} (lastOf : ws.getLast? = some last) (less : w.weight < last.weight) (net : l.net + w.weight = last.weight) :
    netsAgree (ws ++ [w]) (ls ++ [l]) = true := by
  induction ws generalizing ls with
  | nil => cases lastOf
  | cons a rest ih =>
    cases rest with
    | nil =>
      obtain rfl : a = last := by simpa using lastOf
      cases ls with
      | nil => simp [netsAgree, less, net]
      | cons _ _ => simp [netsAgree] at h
    | cons b rest =>
      cases ls with
      | nil => simp [netsAgree] at h
      | cons m ls =>
        simp only [netsAgree, Bool.and_eq_true] at h
        obtain ⟨lower, inner⟩ := h
        simp only [List.cons_append, netsAgree, Bool.and_eq_true]
        exact ⟨lower, ih inner (by simpa using lastOf)⟩

/-- The nets alone are compared with the weighings. -/
theorem netsAgree_congr (ws : List WeighEntry) {ls ms : List Line} (same : ms.map (·.net) = ls.map (·.net)) :
    netsAgree ws ms = netsAgree ws ls := by
  induction ws generalizing ls ms with
  | nil => rfl
  | cons a rest ih =>
    cases ls with
    | nil =>
      obtain rfl : ms = [] := by simpa using same
      rfl
    | cons l ls =>
      cases ms with
      | nil => simp at same
      | cons m ms =>
        obtain ⟨net, tail⟩ := List.cons.inj same
        cases rest with
        | nil => rfl
        | cons b rest => simp only [netsAgree, ih tail, show m.net = l.net from net]

theorem WeighingsSound.congr {closed : Bool} {ws : List WeighEntry} {ls ms : List Line}
    (same : ms.map (·.net) = ls.map (·.net)) (h : WeighingsSound closed ws ls) : WeighingsSound closed ws ms :=
  { h with nets := (netsAgree_congr ws same).trans h.nets }

/-- 02 R24: a weighing below the last one, of the kind that its place asks for, appended with its line. -/
theorem WeighingsSound.append {ws : List WeighEntry} {ls : List Line} (h : WeighingsSound false ws ls) {closed : Bool}
    {w last : WeighEntry} {l : Line} (lastOf : ws.getLast? = some last) (weight : w.weight ≤ 200000)
    (kind : kindsAgree closed [w.kind] = true) (less : w.weight < last.weight) (net : l.net + w.weight = last.weight)
    (room : closed = true ∨ ws.length ≤ 6) : WeighingsSound closed (ws ++ [w]) (ls ++ [l]) where
  weights v hv := by
    rcases List.mem_append.mp hv with old | new
    · exact h.weights v old
    · obtain rfl := List.mem_singleton.mp new
      exact weight
  few := by
    have := h.room.resolve_left (by decide)
    simp only [List.length_append, List.length_singleton]
    omega
  first := by
    cases ws with
    | nil => cases lastOf
    | cons a rest => exact h.first
  kinds := by
    cases ws with
    | nil => cases lastOf
    | cons a rest =>
      simp only [List.cons_append, List.drop_succ_cons, List.drop_zero, List.map_append, List.map_cons, List.map_nil]
      exact kindsAgree_append h.kinds kind
  nets := netsAgree_append h.nets lastOf less net
  room := room.imp_right fun few => by
    simp only [List.length_append, List.length_singleton]
    omega

theorem WeighingsSound.exists_last {closed : Bool} {ws : List WeighEntry} {ls : List Line} (h : WeighingsSound closed ws ls) :
    ∃ last, ws.getLast? = some last := by
  cases ws with
  | nil => cases h.first
  | cons a rest => exact ⟨_, List.getLast?_cons ..⟩

/-- 02 R32, R33, 03 R58: the record of a ticket with a weighing appended, before any settlement. -/
theorem Ticket.append_weighed {t : Ticket} (h : t.Parts) (unsettled : t.settlement = none) {closed : Bool} {e : WeighEntry}
    (grade : Nat) (manual : Option Nat) (weight : e.weight ≤ 200000) (kind : kindsAgree closed [e.kind] = true)
    (less : e.weight < t.lastWeight) (room : closed = true ∨ t.weighings.length ≤ 6) :
    WeighingsSound closed (t.append e grade manual).weighings (t.append e grade manual).lines := by
  have weighed := h.weighed
  rw [unsettled] at weighed
  obtain ⟨last, lastOf⟩ := weighed.exists_last
  have lastWeight := Ticket.lastWeight_eq lastOf
  rw [lastWeight] at less
  exact weighed.append lastOf weight kind less (by simp only [lastWeight]; omega) room

/-! ### Lines and their settlement (04 R64 to R69) -/

/-- 04 R64: the bound fields of a line in the ranges of a definition. -/
def LineSettlement.Bound (f : LineSettlement) : Prop :=
  f.price ≤ 999999 ∧ f.perMille ≤ 500 ∧ f.restricted = f.holdDays.isSome

theorem lineDeduction_eq (net perMille : Nat) (manual : Option Nat) :
    lineDeduction net perMille manual = min net (manual.getD ((net * perMille + 500) / 1000)) := by
  cases manual <;> rfl

/-- 04 R66 to R68: a line computed from bound fields. -/
theorem Line.computed_of_compute {l : Line} {f : LineSettlement} (bound : f.Bound)
    (settlement : l.settlement = some (computeLine l.net l.manual f)) : l.computed = true := by
  obtain ⟨price, perMille, restricted⟩ := bound
  have deduction := lineDeduction_eq l.net f.perMille l.manual
  have whole : l.net - lineDeduction l.net f.perMille l.manual + lineDeduction l.net f.perMille l.manual = l.net := by
    rw [deduction]; omega
  simp only [Line.computed, settlement, computeLine, Bool.and_eq_true, decide_eq_true_eq, beq_iff_eq]
  exact ⟨⟨⟨⟨⟨deduction, whole⟩, trivial⟩, price⟩, perMille⟩, restricted⟩

theorem Line.computed_bound {l : Line} (h : l.computed = true) :
    ∃ f, l.settlement = some f ∧ f.Bound ∧ f.value = f.payable * f.price := by
  unfold Line.computed at h
  split at h
  · cases h
  · rename_i f settlement
    simp only [Bool.and_eq_true, decide_eq_true_eq, beq_iff_eq] at h
    obtain ⟨⟨⟨⟨⟨-, -⟩, value⟩, price⟩, perMille⟩, restricted⟩ := h
    exact ⟨f, settlement, ⟨price, perMille, restricted⟩, value⟩

/-- 04 R68, R69: the exact value of computed lines. -/
theorem exactValue_eq {lines : List Line} (computed : ∀ l ∈ lines, l.computed = true) :
    exactValue lines = (lines.map fun l => (l.settlement.map fun f => f.payable * f.price).getD 0).sum := by
  unfold exactValue
  refine congrArg List.sum (List.map_congr_left fun l hl => ?_)
  obtain ⟨f, settlement, -, value⟩ := Line.computed_bound (computed l hl)
  simp [settlement, value]

/-! ### The hold of a ticket (04 R72) -/

theorem holdDays_pos_iff (lines : List Line) : 0 < holdDays lines ↔ ∃ l ∈ lines, 0 < l.hold := by
  have fold (a : Nat) : 0 < lines.foldl (fun a l => max a l.hold) a ↔ 0 < a ∨ ∃ l ∈ lines, 0 < l.hold := by
    induction lines generalizing a with
    | nil => simp
    | cons l rest ih =>
      rw [List.foldl_cons, ih]
      simp only [lt_max_iff, List.mem_cons, exists_eq_or_imp, or_assoc]
  simpa [holdDays] using fold 0

/-- 03 R46: the definitions of a grade table in the ranges that a line binds. -/
def GradesInRange (grades : List Grade) : Prop :=
  ∀ d ∈ grades.filterMap (·.defn), d.price ≤ 999999 ∧ d.perMille ≤ 500 ∧ d.restricted = d.holdDays.isSome
    ∧ ∀ n ∈ d.holdDays, 1 ≤ n

/-- 04 R64: the bound fields of a definition in its ranges, or of none; a restricted one asks for a hold. -/
theorem boundFields_bound {g : Option GradeDef}
    (h : ∀ d ∈ g, d.price ≤ 999999 ∧ d.perMille ≤ 500 ∧ d.restricted = d.holdDays.isSome ∧ ∀ n ∈ d.holdDays, 1 ≤ n) :
    (boundFields g).Bound ∧ ((boundFields g).restricted = true → 0 < (boundFields g).holdDays.getD 0) := by
  cases g with
  | none => exact ⟨⟨by simp [boundFields], by simp [boundFields], rfl⟩, fun h => by cases h⟩
  | some d =>
    obtain ⟨price, perMille, restricted, days⟩ := h d rfl
    cases hold : d.holdDays with
    | none =>
      have free : d.restricted = false := by simpa [hold] using restricted
      exact ⟨⟨price, perMille, by simp [boundFields, free]⟩, fun h => by simp [boundFields, free] at h⟩
    | some n =>
      have bound : d.restricted = true := by simpa [hold] using restricted
      exact ⟨⟨price, perMille, by simp [boundFields, bound, hold]⟩,
        fun _ => by simpa [boundFields, bound, hold, Nat.pos_iff_ne_zero, Nat.one_le_iff_ne_zero] using days n hold⟩

section Settle

variable {grades : List Grade} (range : GradesInRange grades) (l : Line)
include range

theorem settleLine_bound : (boundFields ((grades[l.grade]?).bind (·.defn))).Bound
    ∧ ((boundFields ((grades[l.grade]?).bind (·.defn))).restricted = true →
      0 < (boundFields ((grades[l.grade]?).bind (·.defn))).holdDays.getD 0) := by
  refine boundFields_bound fun d defined => range d (List.mem_filterMap.mpr ?_)
  obtain ⟨g, here, defn⟩ := Option.bind_eq_some_iff.mp defined
  exact ⟨g, List.mem_of_getElem? here, defn⟩

theorem settleLine_computed : (settleLine grades l).computed = true :=
  Line.computed_of_compute (settleLine_bound range l).1 rfl

theorem settleLine_hold : 0 < (settleLine grades l).hold ↔ (settleLine grades l).restricted = true := by
  have hold : (settleLine grades l).hold = if (settleLine grades l).restricted then
      (boundFields ((grades[l.grade]?).bind (·.defn))).holdDays.getD 0 else 0 := rfl
  rw [hold]
  constructor
  · intro pos
    by_contra free
    simp [free] at pos
  · intro bound
    rw [if_pos bound]
    exact (settleLine_bound range l).2 bound

end Settle

/-- 04 R72: a ticket being settled is held exactly for a restricted line. -/
theorem settled_holdDays {grades : List Grade} (range : GradesInRange grades) (lines : List Line) :
    0 < holdDays (lines.map (settleLine grades)) ↔ (lines.map (settleLine grades)).any Line.restricted = true := by
  simp only [holdDays_pos_iff, List.any_eq_true, List.mem_map]
  constructor
  · rintro ⟨_, ⟨l, hl, rfl⟩, pos⟩
    exact ⟨_, ⟨l, hl, rfl⟩, (settleLine_hold range l).mp pos⟩
  · rintro ⟨_, ⟨l, hl, rfl⟩, bound⟩
    exact ⟨_, ⟨l, hl, rfl⟩, (settleLine_hold range l).mpr bound⟩

/-- 04 R63 to R72: a ticket settled for the first time. -/
theorem settleTicket_parts {grades : List Grade} (range : GradesInRange grades) (clock : Clock) {t : Ticket}
    (weighed : WeighingsSound true t.weighings t.lines) (unpaid : t.payment = none) (unvoided : t.void = none) :
    (settleTicket grades clock t).Parts := by
  have hold := settled_holdDays range t.lines
  have computed : ∀ l ∈ t.lines.map (settleLine grades), l.computed = true := by
    intro l hl
    obtain ⟨m, -, rfl⟩ := List.mem_map.mp hl
    exact settleLine_computed range m
  have state : (settleTicket grades clock t).state =
      if (t.lines.map (settleLine grades)).any Line.restricted then .held else .settled := rfl
  have either : (settleTicket grades clock t).state = .held ∨ (settleTicket grades clock t).state = .settled := by
    rw [state]; split <;> simp
  refine ⟨weighed.congr (by simp [settleTicket, settleLine, Function.comp_def]), fun h => (by cases h), fun x h => ?_, ?_, ?_⟩
  · obtain rfl := Option.some.inj h
    refine ⟨computed, ?_, exactValue_eq computed, rfl, hold, ?_, ?_, ?_⟩
    · rcases either with h | h <;> simp [h]
    · rw [state]
      split
      · exact fun _ => hold.mpr ‹_›
      · exact fun h => by cases h
    · rw [state]
      split
      · exact fun h => by cases h
      · rename_i free
        exact fun _ => Nat.eq_zero_of_not_pos fun pos => free (hold.mp pos)
    · dsimp only
      split
      · rename_i both
        exact fun _ => both.1
      · exact fun h => by cases h
  · have none : (settleTicket grades clock t).payment = none := unpaid
    rw [none]
    rcases either with h | h <;> simp [h]
  · have none : (settleTicket grades clock t).void = none := unvoided
    rw [none]
    rcases either with h | h <;> simp [h]

/-! ### Re-settlement (04 R79, R80) -/

/-- 04 R79, R80: the lines of a ticket whose deduction of line `k` is replaced, all computed again. -/
def resettledLines (t : Ticket) (k : Nat) (manual : Option Nat) : List Line := (t.setManual k manual).lines.map resettleLine

/-- A field of the lines that neither the deduction nor the computing touches. -/
theorem resettledLines_field {α : Type} (field : Line → α) (t : Ticket) (k : Nat) (manual : Option Nat)
    (deducted : ∀ l : Line, field { l with manual } = field l) (computed : ∀ l, field (resettleLine l) = field l) :
    (resettledLines t k manual).map field = t.lines.map field := by
  rw [resettledLines, List.map_map, show field ∘ resettleLine = field from funext computed]
  refine List.ext_getElem? fun j => ?_
  rw [Ticket.setManual, List.getElem?_map, List.getElem?_map, List.getElem?_modify]
  split <;> cases t.lines[j]? <;> simp [deducted]

theorem resettleLine_restricted (l : Line) : (resettleLine l).restricted = l.restricted := by
  unfold Line.restricted resettleLine
  cases l.settlement <;> rfl

theorem resettledLines_computed {t : Ticket} (computed : ∀ l ∈ t.lines, l.computed = true) (k : Nat)
    (manual : Option Nat) : ∀ l ∈ resettledLines t k manual, l.computed = true := by
  intro l hl
  obtain ⟨m, hm, rfl⟩ := List.mem_map.mp hl
  have bound : ∃ f, m.settlement = some f ∧ f.Bound := by
    obtain ⟨j, hj⟩ := List.getElem?_of_mem hm
    rw [Ticket.setManual, List.getElem?_modify, Option.map_eq_map, Option.map_eq_some_iff] at hj
    obtain ⟨old, here, changed⟩ := hj
    obtain ⟨f, settlement, bound, -⟩ := Line.computed_bound (computed old (List.mem_of_getElem? here))
    refine ⟨f, ?_, bound⟩
    rw [← changed]
    split <;> exact settlement
  obtain ⟨f, settlement, bound⟩ := bound
  exact Line.computed_of_compute bound (by simp [resettleLine, settlement])

/-- 04 R79 to R80: a closed ticket re-settled keeps its state, its hold and its bound fields. -/
theorem resettleTicket_parts {t : Ticket} (h : t.Parts) (closed : t.state = .settled ∨ t.state = .held) (k : Nat)
    (manual : Option Nat) : (resettleTicket (t.setManual k manual)).Parts := by
  have lines : (resettleTicket (t.setManual k manual)).lines = resettledLines t k manual := rfl
  have nets := resettledLines_field (·.net) t k manual (fun _ => rfl) (fun _ => rfl)
  have restricted := resettledLines_field Line.restricted t k manual (fun _ => rfl) resettleLine_restricted
  cases settlement : t.settlement with
  | none =>
    obtain ⟨-, state⟩ := h.unsettled settlement
    rcases closed with is | is <;> simp [is] at state
  | some x =>
    have f := h.figured x settlement
    have figures : (resettleTicket (t.setManual k manual)).settlement = some { x with figures := { x.figures with
        exact := exactValue (resettledLines t k manual), amount := amountOf (exactValue (resettledLines t k manual)) } } := by
      have same : (t.setManual k manual).settlement = some x := settlement
      simp [resettleTicket, same, resettledLines]
    have weighed := h.weighed
    rw [settlement] at weighed
    refine ⟨?_, fun none => by simp [figures] at none, fun y hy => ?_, h.paid, h.voided⟩
    · rw [figures, lines]
      exact weighed.congr nets
    · obtain rfl := Option.some.inj (figures.symm.trans hy)
      have computed := resettledLines_computed f.computed k manual
      have any : (resettledLines t k manual).any Line.restricted = t.lines.any Line.restricted := by
        simpa [List.any_map, Function.comp_def] using congrArg (fun bs : List Bool => bs.any id) restricted
      exact ⟨computed, f.closed, exactValue_eq computed, rfl, by rw [lines, any]; exact f.hold, f.held, f.settled, f.release⟩

end Sys2Proof.Machine
end

section
/-! PROOFS. Every step keeps every ticket record sound (02 R23, R24, R31, 04 R69 to R72). -/

namespace Sys2Proof.Machine

/-! ### Records that change in one part -/

theorem Ticket.Parts.loaded {t : Ticket} (h : t.Parts) (state : t.state = .loaded) :
    t.settlement = none ∧ t.payment = none ∧ t.void = none := by
  refine ⟨?_, ?_, ?_⟩
  · cases settlement : t.settlement with
    | none => rfl
    | some x => exact absurd state (h.figured x settlement).closed
  · have paid := h.paid
    rw [state] at paid
    simpa using paid
  · have voided := h.voided
    rw [state] at voided
    simpa using voided

theorem parts_setPending {t : Ticket} (h : t.Parts) (pending : Option BridgeId) : { t with pending }.Parts :=
  ⟨h.weighed, h.unsettled, h.figured, h.paid, h.voided⟩

theorem parts_setParty {t : Ticket} (h : t.Parts) (vehicle : Option Text) (seller : Option Nat) :
    { t with vehicle, seller }.Parts :=
  ⟨h.weighed, h.unsettled, h.figured, h.paid, h.voided⟩

/-- 02 R40: a ticket that is neither PAID nor VOID made VOID. -/
theorem voidedTicket_parts {t : Ticket} (h : t.Parts) (now : Option Stamp) (unpaid : t.state ≠ .paid) :
    (voidedTicket now t).Parts where
  weighed := h.weighed
  unsettled none := ⟨(h.unsettled none).1, .inr rfl⟩
  figured x settlement :=
    { h.figured x settlement with closed := by simp [voidedTicket], held := (by simp [voidedTicket]), settled := (by simp [voidedTicket]) }
  paid := by
    have absent : (voidedTicket now t).payment.isSome = true ↔ t.state = .paid := h.paid
    rw [absent]
    simp [voidedTicket, unpaid]
  voided := by simp [voidedTicket]

/-- 05 R92: a ticket in SETTLED or HELD made PAID. -/
theorem paidTicket_parts {t : Ticket} (h : t.Parts) (f : PaymentFigures) (due : t.state = .settled ∨ t.state = .held) :
    (paidTicket t f).Parts where
  weighed := h.weighed
  unsettled none := by
    obtain ⟨-, state⟩ := h.unsettled none
    rcases due with is | is <;> simp [is] at state
  figured x settlement :=
    { h.figured x settlement with closed := by simp [paidTicket], held := (by simp [paidTicket]), settled := (by simp [paidTicket]) }
  paid := by simp [paidTicket]
  voided := by
    have absent : (paidTicket t f).void.isSome = true ↔ t.state = .void := h.voided
    rw [absent]
    rcases due with is | is <;> simp [is, paidTicket]

/-- A change of the settlement that keeps its figures, but for the release date of a hold. -/
theorem parts_mapSettlement {t : Ticket} (h : t.Parts) (g : Settlement → Settlement)
    (same : ∀ x, FiguresSound t.lines t.state x.figures → FiguresSound t.lines t.state (g x).figures) :
    { t with settlement := t.settlement.map g }.Parts where
  weighed := by simpa using h.weighed
  unsettled none := h.unsettled (Option.map_eq_none_iff.mp none)
  figured y settlement := by
    obtain ⟨x, here, rfl⟩ := Option.map_eq_some_iff.mp settlement
    exact same x (h.figured x here)
  paid := h.paid
  voided := h.voided

/-- 02 R41: a serial recorded. -/
theorem recordSerial_parts {t : Ticket} (h : t.Parts) (kind : JobKind) (serial : Nat) : (recordSerial kind serial t).Parts := by
  have receipt : ({ t with payment := t.payment.map fun x =>
      { x with receiptSerial := x.receiptSerial.or (some serial) } } : Ticket).Parts :=
    ⟨h.weighed, h.unsettled, h.figured, by simpa using h.paid, h.voided⟩
  unfold recordSerial
  cases kind with
  | settleSlip =>
    dsimp only
    split
    · exact h
    · exact parts_mapSettlement h _ fun _ f => f
  | payReceipt =>
    dsimp only
    split
    · exact receipt
    · exact h
  | payVoucher =>
    dsimp only
    split
    · exact receipt
    · exact h
  | voidSlip => exact h
  | tillReport => exact h
  | dayReport => exact h
  | copy => exact h

/-- 04 R77: an undated hold dated. -/
theorem dated_parts {t : Ticket} (h : t.Parts) (today : Date) : (t.dated today).Parts := by
  unfold Ticket.dated
  split
  · rename_i undated
    have held : t.state = .held := by
      simp only [Ticket.undated, Bool.and_eq_true, beq_iff_eq] at undated
      exact undated.1
    exact parts_mapSettlement h _ fun x f => { f with release := fun _ => f.held held }
  · exact h

/-! ### What the laws of the other tables give -/

/-- The laws of the other tables that the tickets lean on. -/
structure State.Surveyed (s : State) : Prop where
  distinct : s.Distinct
  claims : s.Claims
  grades : GradesInRange s.grades
  tares : ∀ e ∈ entries s.tares, e.weight ≤ 200000
  links : ∀ b, (s.bridge b).Sound

theorem Quiet.surveyed {s t : State} (q : Quiet s t) (h : s.Surveyed) : t.Surveyed where
  distinct := by unfold State.Distinct; rw [q.tickets]; exact h.distinct
  claims := q.sameClaims.keeps h.claims
  grades := by
    have defined (grades : List Grade) : grades.filterMap (·.defn) = (grades.map (·.defn)).filterMap id := by
      simp [List.filterMap_map]
    intro d hd
    rw [defined, q.grades, ← defined] at hd
    exact h.grades d hd
  tares := by rw [q.tares]; exact h.tares
  links b := (q.bridges b).sound (h.links b)

theorem State.Surveyed.capacity {s : State} (h : s.Surveyed) (b : BridgeId) : (s.bridge b).config.capacity ≤ 200000 := by
  obtain ⟨⟨-, capacity, -⟩, -⟩ := (Bridge.sound_iff _).mp (h.links b)
  exact capacity

theorem State.Surveyed.division {s : State} (h : s.Surveyed) (b : BridgeId) : 1 ≤ (s.bridge b).config.division :=
  ((Bridge.sound_iff _).mp (h.links b)).1.division_pos

/-- The ticket that a pending weighing names is LOADED. -/
theorem State.Surveyed.named_loaded {s : State} (h : s.Surveyed) {b : BridgeId} {x : Weighing} {n i : Nat} {t : Ticket}
    (pending : (s.bridge b).weighing = some x) (names : x.task.ticket = some n) (found : s.findTicket n = some (i, t)) :
    t.state = .loaded ∧ t.pending = some b := by
  obtain ⟨u, hu, number, mark, loaded⟩ := h.claims.marked b x n pending names
  obtain rfl := h.distinct.unique hu (State.findTicket_mem found) (number.trans (State.findTicket_number found).symm)
  exact ⟨loaded, mark⟩

/-! ### Records -/

/-- Every record of the table is sound. -/
def State.RecordsSound (s : State) : Prop := ∀ t ∈ entries s.tickets, t.Parts

/-- 02 R31: a pending drop finds room for its weighing and the final one. -/
def State.DropsFit (s : State) : Prop :=
  ∀ b x, (s.bridge b).weighing = some x → x.task.purpose = .drop →
    ∀ t ∈ entries s.tickets, x.task.ticket = some t.number → t.weighings.length ≤ 6

theorem State.ticketsSound_iff (s : State) : s.TicketsSound ↔ s.RecordsSound ∧ s.DropsFit := by
  simp only [State.TicketsSound, State.RecordsSound, State.DropsFit, Ticket.sound_iff]

theorem Revised.parts {s : State} (yard : s.Surveyed) {t t' : Ticket} (h : t.Parts) (revision : Revised s t t') :
    t'.Parts := by
  cases revision with
  | party vehicle seller => exact parts_setParty h vehicle seller
  | deducted k manual _ due => exact resettleTicket_parts h due k manual
  | voided _ unpaid _ => exact voidedTicket_parts h s.stamp unpaid
  | paid f due => exact paidTicket_parts h f due
  | recorded kind serial => exact recordSerial_parts h kind serial
  | closed tare grade manual loaded _ stored lower =>
    obtain ⟨unsettled, unpaid, unvoided⟩ := h.loaded loaded
    have division := yard.division tare.bridge
    exact settleTicket_parts yard.grades s.clock
      (Ticket.append_weighed h unsettled grade manual (yard.tares tare stored) rfl (by dsimp only; omega) (.inl rfl))
      unpaid unvoided

section Deliver

variable {s u : State} {b : BridgeId} {x : Weighing} (yard : s.Surveyed) (pending : (s.bridge b).weighing = some x)
include yard pending

/-- 02 R32: the record of a ticket with a DROP capture appended. -/
theorem dropped_parts {n grade i w : Nat} {manual : Option Nat} {t : Ticket} (h : t.Parts)
    (task : x.task = .drop n grade manual) (found : s.findTicket n = some (i, t)) (room : t.weighings.length ≤ 6)
    (fits : w ≤ (s.bridge b).config.capacity) (lower : w + (s.bridge b).config.division ≤ t.lastWeight) :
    (t.append ⟨.drop, w, b, s.stamp⟩ grade manual).Parts := by
  obtain ⟨loaded, -⟩ := yard.named_loaded pending (by rw [task]; rfl) found
  obtain ⟨unsettled, -, -⟩ := h.loaded loaded
  have capacity := yard.capacity b
  have division := yard.division b
  have weighed := Ticket.append_weighed (e := ⟨.drop, w, b, s.stamp⟩) (closed := false) h unsettled grade manual
    (by dsimp only; omega) rfl (by dsimp only; omega) (.inr room)
  have still : (t.append ⟨.drop, w, b, s.stamp⟩ grade manual).settlement = none := unsettled
  refine ⟨by rw [still]; exact weighed, fun _ => ⟨fun l hl => ?_, .inl loaded⟩,
    fun y hy => by rw [still] at hy; contradiction, h.paid, h.voided⟩
  rcases List.mem_append.mp hl with old | new
  · exact (h.unsettled unsettled).1 l old
  · rw [List.mem_singleton.mp new]

/-- 02 R33, 04 R63: the record of a ticket closed by a TARE capture. -/
theorem closed_parts {n grade i w : Nat} {manual : Option Nat} {t : Ticket} (h : t.Parts)
    (task : x.task = .tare n grade manual) (found : s.findTicket n = some (i, t))
    (fits : w ≤ (s.bridge b).config.capacity) (lower : w + (s.bridge b).config.division ≤ t.lastWeight) :
    (settleTicket s.grades s.clock (t.append ⟨.tare, w, b, s.stamp⟩ grade manual)).Parts := by
  obtain ⟨loaded, -⟩ := yard.named_loaded pending (by rw [task]; rfl) found
  obtain ⟨unsettled, unpaid, unvoided⟩ := h.loaded loaded
  have capacity := yard.capacity b
  have division := yard.division b
  exact settleTicket_parts yard.grades s.clock
    (Ticket.append_weighed h unsettled grade manual (by dsimp only; omega) rfl (by dsimp only; omega) (.inl rfl))
    unpaid unvoided

end Deliver

/-- 02 R29: the record of a ticket just opened. -/
theorem opened_parts {n w : Nat} (fits : w ≤ 200000) (b : BridgeId) (now : Option Stamp) (vehicle : Option Text)
    (seller : Option Nat) : ({ number := n, state := .loaded, pending := none, vehicle, seller, opened := now
                               weighings := [⟨.gross, w, b, now⟩], lines := [], settlement := none, payment := none
                               void := none } : Ticket).Parts where
  weighed := ⟨fun v hv => by rw [List.mem_singleton.mp hv]; exact fits, by simp, rfl, rfl, rfl, .inr (by simp)⟩
  unsettled _ := ⟨by simp, .inl rfl⟩
  figured x h := by contradiction
  paid := by simp
  voided := by simp

theorem recordsSound_putTicket {s : State} (distinct : s.Distinct) {n i : Nat} {t t' : Ticket}
    (found : s.findTicket n = some (i, t)) (h : s.RecordsSound) (new : t.Parts → t'.Parts) : (s.putTicket i t').RecordsSound := by
  intro u hu
  rcases (State.mem_putTicket distinct found).mp hu with rfl | ⟨old, -⟩
  · exact new (h t (State.findTicket_mem found))
  · exact h u old

theorem recordsSound_clearTaskMark {s : State} (distinct : s.Distinct) (h : s.RecordsSound) (task : WeighTask) :
    (s.clearTaskMark task).RecordsSound := by
  cases names : task.ticket with
  | none => rw [clearTaskMark_free names]; exact h
  | some n =>
    rw [clearTaskMark_named names]
    rcases s.clearMark_cases n with ⟨-, same⟩ | ⟨i, t, found, cleared⟩
    · rw [same]; exact h
    · rw [cleared]
      exact recordsSound_putTicket distinct found h fun parts => parts_setPending parts none

theorem recordsSound_map {s t : State} {g : Ticket → Ticket} (tickets : t.tickets = s.tickets.map (Option.map g))
    (h : s.RecordsSound) (kept : ∀ u, u.Parts → (g u).Parts) : t.RecordsSound := by
  intro u hu
  rw [tickets, entries_map] at hu
  obtain ⟨v, hv, rfl⟩ := List.mem_map.mp hu
  exact kept v (h v hv)

theorem Delivered.keeps_records {s u : State} {b : BridgeId} {x : Weighing} (delivered : Delivered s b x u)
    (yard : s.Surveyed) (pending : (s.bridge b).weighing = some x) (h : s.RecordsSound) (room : s.DropsFit) :
    u.RecordsSound := by
  cases delivered with
  | cleared => exact recordsSound_clearTaskMark yard.distinct h x.task
  | opened vehicle seller _ slot fits =>
    intro v hv
    rcases List.mem_cons.mp ((State.opened_perm slot b _ vehicle seller).mem_iff.mp hv) with rfl | old
    · exact opened_parts (fits.trans (yard.capacity b)) b s.stamp vehicle seller
    · exact h v old
  | dropped task found fits lower =>
    refine recordsSound_putTicket yard.distinct found h fun parts => dropped_parts yard pending parts task found ?_ fits lower
    refine room b x pending (by rw [task]; rfl) _ (State.findTicket_mem found) ?_
    rw [task, State.findTicket_number found]
    rfl
  | closed task found fits lower =>
    exact recordsSound_putTicket yard.distinct found h fun parts => closed_parts yard pending parts task found fits lower
  | stored _ _ _ => exact h

theorem recordsSound_backupDefaults (s : State) : s.backupDefaults.RecordsSound := by
  intro t ht
  rw [backupDefaults_entries] at ht
  contradiction

theorem Deed.keeps_records {s t : State} (deed : Deed s t) (yard : s.Surveyed) (h : s.RecordsSound) (room : s.DropsFit) :
    t.RecordsSound := by
  cases deed with
  | idle => exact h
  | claimed _ _ _ _ _ marked =>
    cases marked with
    | free _ => exact h
    | ticket _ found _ _ _ =>
      exact recordsSound_putTicket yard.distinct found h fun parts => parts_setPending parts (some _)
  | ended _ pending _ _ _ delivered => exact delivered.keeps_records yard pending h room
  | unclaimed _ _ => exact h
  | revised found revision => exact recordsSound_putTicket yard.distinct found h fun parts => revision.parts yard parts
  | dated _ => exact recordsSound_map rfl h fun u parts => dated_parts parts _
  | freed =>
    intro u hu
    rw [show entries (freeFinished s.tickets) = _ from entries_filter _ s.tickets] at hu
    exact h u (List.mem_of_mem_filter hu)
  | ticked _ => exact h
  | limited _ _ _ => exact h
  | validFor _ _ => exact h
  | headed _ _ => exact h
  | papered _ _ _ => exact h
  | graded _ => exact h
  | untared _ => exact h
  | lost main => exact recordsSound_map main.tickets h fun u parts => parts_setPending parts none
  | defaulted => exact recordsSound_backupDefaults _

/-! ### Room for a drop (02 R31) -/

/-- A ticket revised while it is marked keeps its weighings. -/
theorem Revised.weighings {s : State} {t t' : Ticket} (h : Revised s t t') (marked : t.pending.isSome = true) :
    t'.weighings = t.weighings := by
  cases h with
  | party _ _ => rfl
  | deducted _ _ _ _ => rfl
  | voided _ _ _ => rfl
  | paid _ _ => rfl
  | recorded kind serial =>
    unfold recordSerial
    repeat' split
    all_goals rfl
  | closed _ _ _ _ free _ _ => simp [free] at marked

/-- No weighing comes, and a ticket that one names has as many weighings as it had. -/
theorem State.DropsFit.of {s t : State} (h : s.DropsFit)
    (weighings : ∀ b x, (t.bridge b).weighing = some x → (s.bridge b).weighing = some x)
    (tickets : ∀ b x, (t.bridge b).weighing = some x → ∀ u ∈ entries t.tickets, x.task.ticket = some u.number →
      u.weighings.length ≤ 6 ∨ ∃ v ∈ entries s.tickets, v.number = u.number ∧ v.weighings.length = u.weighings.length) :
    t.DropsFit := by
  intro b x pending drop u hu names
  rcases tickets b x pending u hu names with few | ⟨v, hv, number, length⟩
  · exact few
  · rw [← length]
    exact h b x (weighings b x pending) drop v hv (by rw [number]; exact names)

theorem State.DropsFit.same_tickets {s t : State} (h : s.DropsFit)
    (weighings : ∀ b x, (t.bridge b).weighing = some x → (s.bridge b).weighing = some x) (tickets : t.tickets = s.tickets) :
    t.DropsFit :=
  h.of weighings fun _ _ _ u hu _ => .inr ⟨u, by rw [← tickets]; exact hu, rfl, rfl⟩

theorem dropsFit_idle {s : State} (weighings : ∀ b, (s.bridge b).weighing = none) : s.DropsFit := by
  intro b x pending
  rw [weighings] at pending
  contradiction

theorem dropsFit_noTickets {s : State} (none : entries s.tickets = []) : s.DropsFit := by
  intro b x _ _ t ht
  rw [none] at ht
  contradiction

theorem Marked.keeps_drops {s u : State} {b : BridgeId} {task : WeighTask} (marked : Marked s b task u) (p : Port)
    (cls : Byte) (yard : s.Surveyed) (h : s.DropsFit) : ((u.startWeighing b p task).beginFlight p cls b).DropsFit := by
  intro c x pending drop v hv names
  rw [marked.claimed_weighing] at pending
  have tickets : ((u.startWeighing b p task).beginFlight p cls b).tickets = u.tickets := rfl
  rw [tickets] at hv
  cases marked with
  | free free =>
    split at pending
    · obtain rfl := Option.some.inj pending
      rw [free] at names
      contradiction
    · exact h c x pending drop v hv names
  | @ticket _ _ t taken found _ _ room =>
    rcases (State.mem_putTicket yard.distinct found).mp hv with rfl | ⟨old, other⟩
    · split at pending
      · obtain rfl := Option.some.inj pending
        exact room drop
      · exact h c x pending drop t (State.findTicket_mem found) names
    · split at pending
      · obtain rfl := Option.some.inj pending
        exact absurd (Option.some.inj (names.symm.trans taken)) other
      · exact h c x pending drop v old names

/-- 02 R34: at a delivery, the tickets that another weighing names keep their weighings. -/
theorem Delivered.entries_named {s u : State} {b : BridgeId} {x : Weighing} (distinct : s.Distinct)
    (delivered : Delivered s b x u) {v : Ticket} (hv : v ∈ entries u.tickets) (other : x.task.ticket ≠ some v.number) :
    v.weighings.length ≤ 6 ∨ v ∈ entries s.tickets := by
  have replaced {n i : Nat} {t t' : Ticket} (found : s.findTicket n = some (i, t)) (number : t'.number = t.number)
      (names : x.task.ticket = some n) (hv : v ∈ entries (s.putTicket i t').tickets) : v ∈ entries s.tickets := by
    rcases (State.mem_putTicket distinct found).mp hv with rfl | ⟨old, -⟩
    · exact absurd (names.trans (congrArg some (number.trans (State.findTicket_number found)).symm)) other
    · exact old
  cases delivered with
  | cleared =>
    cases names : x.task.ticket with
    | none => rw [clearTaskMark_free names] at hv; exact .inr hv
    | some n =>
      rw [clearTaskMark_named names] at hv
      rcases s.clearMark_cases n with ⟨-, same⟩ | ⟨i, t, found, cleared⟩
      · rw [same] at hv; exact .inr hv
      · rw [cleared] at hv; exact .inr (replaced (t' := { t with pending := none }) found rfl names hv)
  | opened _ _ _ slot _ =>
    rcases mem_opened slot hv with ⟨-, one⟩ | old
    · exact .inl (by omega)
    · exact .inr old
  | dropped task found _ _ => exact .inr (replaced (t' := Ticket.append _ _ _ _) found rfl (by rw [task]; rfl) hv)
  | closed task found _ _ =>
    exact .inr (replaced (t' := settleTicket _ _ (Ticket.append _ _ _ _)) found rfl (by rw [task]; rfl) hv)
  | stored _ _ _ => exact .inr hv

theorem Delivered.keeps_drops {s u : State} {b : BridgeId} {x : Weighing} (delivered : Delivered s b x u) (p : Port)
    {br : Bridge} (free : br.weighing = none) (pending : (s.bridge b).weighing = some x) (yard : s.Surveyed)
    (h : s.DropsFit) : ((u.setBridge b br).unflown p).DropsFit := by
  have elsewhere (c : BridgeId) (y : Weighing)
      (here : (((u.setBridge b br).unflown p).bridge c).weighing = some y) : c ≠ b ∧ (s.bridge c).weighing = some y := by
    rw [delivered.ended_bridge] at here
    split at here
    · rw [free] at here; contradiction
    · exact ⟨‹_›, here⟩
  refine h.of (fun c y here => (elsewhere c y here).2) fun c y here v hv names => ?_
  obtain ⟨away, old⟩ := elsewhere c y here
  have other : x.task.ticket ≠ some v.number := fun same => away (yard.distinct.mark_bridge
    (yard.claims.marked c y _ old names) (yard.claims.marked b x _ pending same))
  exact (delivered.entries_named yard.distinct hv other).imp_right fun held => ⟨v, held, rfl, rfl⟩

theorem Revised.keeps_drops {s : State} {n i : Nat} {t t' : Ticket} (revision : Revised s t t') (yard : s.Surveyed)
    (found : s.findTicket n = some (i, t)) (h : s.DropsFit) : (s.putTicket i t').DropsFit := by
  refine h.of (fun _ _ pending => pending) fun b x pending v hv names => .inr ?_
  rcases (State.mem_putTicket yard.distinct found).mp hv with rfl | ⟨old, -⟩
  · rw [revision.number, State.findTicket_number found] at names
    obtain ⟨-, mark⟩ := yard.named_loaded pending names found
    exact ⟨t, State.findTicket_mem found, revision.number.symm, by rw [revision.weighings (by simp [mark])]⟩
  · exact ⟨v, old, rfl, rfl⟩

theorem dated_weighings (today : Date) (t : Ticket) : (t.dated today).weighings = t.weighings := by
  unfold Ticket.dated
  split <;> rfl

theorem MainLost.weighings {s t : State} (main : MainLost s t) (b : BridgeId) : (t.bridge b).weighing = none := by
  obtain ⟨_, _, h⟩ := main.bridges b
  rw [h]
  rfl

theorem Deed.keeps_drops {s t : State} (deed : Deed s t) (yard : s.Surveyed) (h : s.DropsFit) : t.DropsFit := by
  cases deed with
  | idle => exact h
  | claimed cls _ _ _ _ marked => exact marked.keeps_drops _ cls yard h
  | ended _ pending _ free _ delivered => exact delivered.keeps_drops _ free pending yard h
  | unclaimed _ _ => exact h
  | revised found revision => exact revision.keeps_drops yard found h
  | dated _ =>
    refine h.of (fun _ _ pending => pending) fun b x _ u hu _ => .inr ?_
    rw [entries_map] at hu
    obtain ⟨v, hv, rfl⟩ := List.mem_map.mp hu
    exact ⟨v, hv, (dated_fields _ v).1.symm, by rw [dated_weighings]⟩
  | freed =>
    refine h.of (fun _ _ pending => pending) fun b x _ u hu _ => .inr ?_
    rw [show entries (freeFinished s.tickets) = _ from entries_filter _ s.tickets] at hu
    exact ⟨u, List.mem_of_mem_filter hu, rfl, rfl⟩
  | ticked _ => exact h
  | limited _ _ _ => exact h
  | validFor _ _ => exact h
  | headed _ _ => exact h
  | papered _ _ _ => exact h
  | graded _ => exact h
  | untared _ => exact h
  | lost main => exact dropsFit_idle main.weighings
  | defaulted => exact dropsFit_noTickets (backupDefaults_entries _)

/-! ### Every step -/

theorem Quiet.keeps_tickets {s t : State} (q : Quiet s t) (records : s.RecordsSound) (room : s.DropsFit) :
    t.RecordsSound ∧ t.DropsFit :=
  ⟨by unfold State.RecordsSound; rw [q.tickets]; exact records,
    room.same_tickets (fun b x pending => by rw [← (q.bridges b).weighing]; exact pending) q.tickets⟩

theorem step_keeps_tickets {s t : State} (h : step s = .next t) (yard : s.Surveyed) (sound : s.TicketsSound) :
    t.TicketsSound := by
  obtain ⟨s₀, t₀, before, deed, rest⟩ := step_course h
  obtain ⟨records, room⟩ := (s.ticketsSound_iff).mp sound
  obtain ⟨records₀, room₀⟩ := before.keeps_tickets records room
  have yard₀ := before.surveyed yard
  exact (t.ticketsSound_iff).mpr (rest.keeps_tickets (deed.keeps_records yard₀ records₀ room₀) (deed.keeps_drops yard₀ room₀))

theorem GradesSound_range {s : State} (sound : s.GradesSound) : GradesInRange s.grades := by
  obtain ⟨-, range, -, -⟩ := sound
  intro d hd
  obtain ⟨-, -, -, -, -, price, perMille, restricted, days⟩ := range d hd
  exact ⟨price, perMille, restricted, fun n hn => (days n hn).1⟩

/-- Settles O55: the records and the room through the course of the step, on the laws of the other tables. -/
theorem stepsKeepTicketsSound : Obligations.StepsKeepTicketsSound :=
  fun s _ tickets _ numbers claims grades tares settings h =>
    step_keeps_tickets h ⟨numbers.1, (s.claimsSound_iff).mp claims, GradesSound_range grades, tares.2, fun b => (settings.1 b).1⟩
      tickets

end Sys2Proof.Machine
end

section
/-! PROOFS. TARE captures (02 R33, 04 R63, R73 to R75): the ticket closed by a captured tare weight. -/

namespace Sys2Proof.Machine

/-- Closing a ticket leaves whatever bridge `b` was set to where it was. -/
theorem State.closed_of_setBridge (s : State) (b : BridgeId) (x : Bridge) (i : Nat) (t : Ticket) (p : Port) :
    ∃ y, (s.setBridge b x).closed i t p = (s.closed i t p).setBridge b y :=
  ⟨_, by rw [← State.closed_setBridge s b x, State.setBridge_bridge]⟩

/-- 02 R33: a TARE capture delivered to ticket `n` of slot `i`, in a state with the printers, grades, clock and stamp
of `s`: the ticket closes as `t'` with figures `f`. -/
theorem State.deliverTare_closes {s u : State} {n i : Nat} {t t' : Ticket} {last : WeighEntry} {f : SettlementFigures}
    {grade w : Nat} {manual : Option Nat} {b : BridgeId} (found : s.findTicket n = some (i, t))
    (lastOf : t.weighings.getLast? = some last) (p : Port) (printers : u.printers = s.printers)
    (grades : u.grades = s.grades) (clock : u.clock = s.clock)
    (closing : t' = settleTicket s.grades s.clock (t.append ⟨.tare, w, b, u.stamp⟩ grade manual))
    (figures : t'.settlement = some ⟨f, none⟩) :
    u.deliverTare b w p i t grade manual =
      ⟨.done, some n, Wire.num 3 n ++ Wire.num 1 t.weighings.length ++ Wire.num 3 (last.weight - w) ++ s.outcomeFields p t' f,
        u.closed i t' p⟩ := by
  subst closing
  simp only [State.deliverTare, State.closeTicket_eq s u i _ p printers grades clock, settlementFields_eq s _ f p figures,
    Ticket.lastWeight_eq lastOf, State.findTicket_number found]

/-- Settles O20: the delivery, made at the counted bridge, closes the ticket; then `exec_capture`. -/
theorem tareCaptureSettlesTheTicket : Obligations.TareCaptureSettlesTheTicket := by
  intro b raw status x cls n g manual i t last w s capture good task found lastOf weight fits less
  have below : w + (s.bridge b).config.division ≤ t.lastWeight := by rwa [Ticket.lastWeight_eq lastOf]
  have appended : t.append ⟨.tare, w, b, s.stamp⟩ g manual = { t with
      pending := none, weighings := t.weighings ++ [⟨.tare, w, b, s.stamp⟩]
      lines := t.lines ++ [⟨g, last.weight - w, manual, none⟩] } := by
    rw [Ticket.append, Ticket.lastWeight_eq lastOf]
  have closes := State.deliverTare_closes (s := s) (u := s.afterCount b raw.toInt) (w := w) (grade := g) (b := b)
    (manual := manual) found lastOf x.console rfl rfl rfl rfl rfl
  refine ⟨_, _, by rw [← appended], rfl, ?_⟩
  obtain ⟨br, unbridged⟩ := State.closed_of_setBridge s b (((s.bridge b).sampled raw.toInt).counted raw.toInt) i
    (settleTicket s.grades s.clock (t.append ⟨.tare, w, b, s.stamp⟩ g manual)) x.console
  have delivered := (State.deliver_tare s b raw.toInt x n g manual i t w task found fits below).trans closes
  rw [show (s.afterCount b raw.toInt).stamp = s.stamp from rfl, unbridged] at delivered
  rw [exec_capture capture good weight delivered, task]
  simp only [List.append_assoc]
  rfl

end Sys2Proof.Machine
end

section
/-! PROOFS. The requests on one ticket and those of the grade and tare tables: their refusals (02 R39, R40, 04 R78,
03 R48, R51, R54, R57, R61, R62, 06 R125), SET-PARTY and VOID-TICKET. -/

namespace Sys2Proof.Machine

/-- A ready port holds a role, so it may send the requests of every role. -/
theorem State.ReadyAs.anyRole {s : State} {p : Port} {role : Role} (ready : s.ReadyAs p role) : anyRole role = true := by
  obtain ⟨-, -, held, -⟩ := ready
  simpa [Machine.anyRole] using held

/-! ### SET-PARTY and VOID-TICKET -/

theorem or_eq_ite {α : Type} (a b : Option α) : a.or b = if a.isSome then a else b := by
  cases a <;> rfl

theorem setPartyReply_refused {p : Port} {r : SetPartyReq} {s : State} {code : ResultCode}
    (failed : firstFailure (setPartyChecks s r.ticket) = some code) : setPartyReply p r s = .refuse code := by
  rw [setPartyReply_eq, failed]

/-- 02 R39: SET-PARTY on a ticket that is neither PAID nor VOID. -/
theorem setPartyReply_done {p : Port} {r : SetPartyReq} {s : State} {i : Nat} {t : Ticket}
    (found : s.findTicket r.ticket = some (i, t)) (unpaid : t.state ≠ .paid) (valid : t.state ≠ .void) :
    setPartyReply p r s = .done (Wire.optText (r.vehicle.or t.vehicle) ++ Wire.optNum 3 (r.seller.or t.seller))
      (s.putTicket i { t with vehicle := r.vehicle.or t.vehicle, seller := r.seller.or t.seller }) := by
  have passed : firstFailure (setPartyChecks s r.ticket) = none := by
    simp [setPartyChecks, State.ticket, found, unpaid, valid]
  rw [setPartyReply_eq, passed, found]

theorem voidTicketReply_refused {p : Port} {n : Nat} {s : State} {code : ResultCode}
    (failed : firstFailure (voidChecks s n) = some code) : voidTicketReply p n s = .refuse code := by
  rw [voidTicketReply_eq, failed]

/-- 02 R40: the ticket `t` voided at the time of `s`. -/
def State.voidedAt (s : State) (t : Ticket) : Ticket := { t with state := .void, void := some ⟨s.stamp⟩ }

/-- 02 R40: the ticket of slot `i` voided, and counted. -/
def State.voiding (s : State) (i : Nat) (t : Ticket) : State :=
  { s.putTicket i (s.voidedAt t) with day := { s.day with voided := min (s.day.voided + 1) 999999999999 } }

/-- 02 R40: VOID-TICKET past its checks. -/
theorem voidTicketReply_done {p : Port} {n i : Nat} {t : Ticket} {s : State} (found : s.findTicket n = some (i, t))
    (passed : firstFailure (voidChecks s n) = none) :
    voidTicketReply p n s = .done (Wire.num 3 n ++ s.slipBytes p)
      ((s.voiding i t).offered p .voidSlip ((s.voiding i t).snapTicket (s.voidedAt t))) := by
  rw [voidTicketReply_eq, passed, found]
  rfl

/-- Settles O25: both replies, whose slip offer does not meet the console's receiver. -/
theorem setPartyAndVoidTicket : Obligations.SetPartyAndVoidTicket := by
  refine ⟨fun p fields r i t s decoded ready found unpaid valid => ?party,
    fun p fields n i t s decoded ready found passed => ?voided⟩
  case party =>
    have reply : setPartyReply p r (s.idleReceiver p) = _ := setPartyReply_done found unpaid valid
    simp only [or_eq_ite] at reply
    rcases ready with weigh | pay
    · exact takeRequest_done weigh rfl decoded reply
    · exact takeRequest_done pay rfl decoded reply
  case voided =>
    have reply : voidTicketReply p n (s.idleReceiver p) = _ := voidTicketReply_done found passed
    exact takeRequest_done ready rfl decoded (reply.trans (congrArg _ (State.idleReceiver_offered (s.voiding i t) p p _ _)))

/-! ### The refusals of the grade and tare tables -/

/-- 03 R48: the code is already carried at another index. -/
theorem State.codeElsewhere_of_gradeDef {s : State} {i j : Nat} {d : GradeDef} (defined : s.gradeDef j = some d)
    (other : j ≠ i) : s.codeElsewhere i d.code = true := by
  obtain ⟨g, here, is⟩ := Option.bind_eq_some_iff.mp defined
  refine List.any_eq_true.mpr ⟨(g, j), List.mem_zipIdx_iff_getElem?.mpr here, ?_⟩
  simp [is, other]

/-- 03 R51: a grade is in use by a line of a ticket or by a pending weighing. -/
theorem State.gradeInUse_iff {s : State} {i : Nat} : s.gradeInUse i = true ↔
    (∃ t ∈ entries s.tickets, ∃ l ∈ t.lines, l.grade = i)
      ∨ ∃ b x, (s.bridge b).weighing = some x ∧ x.task.grade = some i := by
  have pending : s.bridges.toList.any (fun b => b.weighing.any fun w => w.task.grade == some i) = true ↔
      ∃ b x, (s.bridge b).weighing = some x ∧ x.task.grade = some i := by
    simp [Pair.mem_toList, State.bridge, Option.any_eq_true]
  rw [State.gradeInUse, Bool.or_eq_true, pending]
  simp

/-- 03 R61: no id that comes after `v`. -/
theorem State.tareAfter_eq_none {s : State} {v : Text} (last : ∀ e ∈ entries s.tares, idBefore v e.vehicle = false) :
    s.tareAfter v = none := by
  unfold State.tareAfter
  generalize entries s.tares = tares at last
  induction tares with
  | nil => rfl
  | cons e rest ih =>
    rw [List.foldl_cons, last e List.mem_cons_self]
    exact ih fun o ho => last o (List.mem_cons_of_mem e ho)

section Replies

variable {p : Port} {s : State}

theorem setGradeReply_duplicate {r : SetGradeReq} (elsewhere : s.codeElsewhere r.index r.grade.code = true) :
    setGradeReply p r s = .refuse .duplicate := if_pos elsewhere

theorem removeGradeReply_notFound {code : Nat} (absent : s.gradeIndex code = none) :
    removeGradeReply p code s = .refuse .notFound := by
  rw [removeGradeReply, absent]

theorem removeGradeReply_inUse {code i : Nat} (found : s.gradeIndex code = some i) (used : s.gradeInUse i = true) :
    removeGradeReply p code s = .refuse .gradeInUse := by
  rw [removeGradeReply, found]
  exact if_pos used

theorem deleteTareReply_notFound {v : Text} (absent : s.findTare v = none) :
    deleteTareReply p v s = .refuse .notFound := by
  rw [deleteTareReply, absent]

theorem queryGradeReply_notFound {code : Nat} (absent : s.gradeIndex code = none) :
    queryGradeReply p (.code code) s = .refuse .notFound := by
  simp only [queryGradeReply, absent]

theorem queryTareReply_notFound {v : Text} (absent : s.findTare v = none) :
    queryTareReply p (.exact v) s = .refuse .notFound := by
  simp only [queryTareReply, absent]

theorem queryTareReply_noLater {v : Text} (last : s.tareAfter v = none) :
    queryTareReply p (.after v) s = .refuse .notFound := by
  simp only [queryTareReply, last]

end Replies

/-- Settles O24: each table of checks is its block's reply, and no check reads the console's receiver. -/
theorem ticketAndTableRequestsAreChecked : Obligations.TicketAndTableRequestsAreChecked := by
  refine ⟨fun p fields s code => ⟨fun r decoded ready failed => ?party,
      fun n decoded => ⟨fun ready failed => ?voided, fun ready failed => ?copy⟩,
      fun r decoded ready failed line => ?deduction, fun r decoded ready failed => ?storedTare⟩,
    fun p fields s => ⟨fun r j d decoded ready defined carries other => ?duplicate,
      fun code decoded ready => ⟨fun absent => ?noGrade, fun i found used => ?gradeInUse⟩,
      fun v decoded ready absent => ?noTare, fun code decoded ready absent => ?queriedGrade,
      fun v decoded ready absent => ?queriedTare, fun v decoded ready last => ?noLaterTare⟩⟩
  case party =>
    have reply : setPartyReply p r (s.idleReceiver p) = .refuse code := setPartyReply_refused failed
    rcases ready with weigh | pay
    · exact takeRequest_refused weigh rfl decoded reply
    · exact takeRequest_refused pay rfl decoded reply
  case voided => exact takeRequest_refused ready rfl decoded (voidTicketReply_refused failed)
  case copy => exact takeRequest_refused ready ready.anyRole decoded (copyReply_refused p _ n code failed)
  case deduction => exact takeRequest_refused ready rfl decoded (setDeductionReply_refused p _ r code line failed)
  case storedTare => exact takeRequest_refused ready rfl decoded (applyTareReply_refused p _ r code failed)
  case duplicate =>
    have elsewhere : s.codeElsewhere r.index r.grade.code = true := carries ▸ State.codeElsewhere_of_gradeDef defined other
    exact takeRequest_refused ready rfl decoded (setGradeReply_duplicate elsewhere)
  case noGrade => exact takeRequest_refused ready rfl decoded (removeGradeReply_notFound absent)
  case gradeInUse =>
    exact takeRequest_refused ready rfl decoded (removeGradeReply_inUse found (State.gradeInUse_iff.mpr used))
  case noTare => exact takeRequest_refused ready rfl decoded (deleteTareReply_notFound absent)
  case queriedGrade => exact takeRequest_refused ready ready.anyRole decoded (queryGradeReply_notFound absent)
  case queriedTare => exact takeRequest_refused ready ready.anyRole decoded (queryTareReply_notFound absent)
  case noLaterTare =>
    exact takeRequest_refused ready ready.anyRole decoded (queryTareReply_noLater (State.tareAfter_eq_none last))

end Sys2Proof.Machine
end

section
/-! PROOFS. LIST-TICKETS (02 R45): the matching tickets in ascending order of number, at most eight of them. -/

namespace Sys2Proof.Machine

theorem insertTicket_eq_orderedInsert (t : Ticket) (ts : List Ticket) :
    insertTicket t ts = ts.orderedInsert (fun t u => t.number ≤ u.number) t := by
  induction ts with
  | nil => rfl
  | cons u rest ih => rw [insertTicket, List.orderedInsert_cons, ih]

/-- 02 R45: the listing is an insertion sort. -/
theorem foldr_insertTicket (ts : List Ticket) :
    ts.foldr insertTicket [] = ts.insertionSort (fun t u => t.number ≤ u.number) := by
  induction ts with
  | nil => rfl
  | cons t rest ih => rw [List.foldr_cons, ih, insertTicket_eq_orderedInsert, List.insertionSort_cons]

theorem State.matching_sorted (s : State) (r : ListTicketsReq) :
    (s.matching r).Pairwise fun t u => t.number ≤ u.number := by
  have total : Std.Total fun t u : Ticket => t.number ≤ u.number := ⟨fun t u => le_total t.number u.number⟩
  have trans : IsTrans Ticket fun t u => t.number ≤ u.number := ⟨fun _ _ _ => le_trans⟩
  rw [State.matching, foldr_insertTicket]
  exact List.pairwise_insertionSort _ _

theorem ListTicketsReq.filter_all (r : ListTicketsReq) (t : Ticket) :
    r.filter.all (· == t.state) = (r.filter.isNone || r.filter == some t.state) := by
  cases r.filter <;> rfl

theorem State.matching_perm (s : State) (r : ListTicketsReq) :
    (s.matching r).Perm ((entries s.tickets).filter fun t =>
      decide (r.after < t.number) && (r.filter.isNone || r.filter == some t.state)) := by
  simp only [State.matching, foldr_insertTicket, ListTicketsReq.filter_all]
  exact List.perm_insertionSort _ _

theorem lt_length_eq_drop_not_isEmpty (ts : List Ticket) : decide (8 < ts.length) = !(ts.drop 8).isEmpty := by
  rw [Bool.eq_iff_iff, decide_eq_true_iff, Bool.not_eq_true', List.isEmpty_eq_false_iff, Ne, List.drop_eq_nil_iff, not_le]

/-- Settles O28: the first eight of the sorted matches are listed, the rest is left. -/
theorem listTicketsInNumberOrder : Obligations.ListTicketsInNumberOrder := by
  intro p fields r s decoded ready
  have whole : (s.matching r).take 8 ++ (s.matching r).drop 8 = s.matching r := List.take_append_drop 8 _
  have reply : listTicketsReply p r (s.idleReceiver p) =
      .done (Wire.list listEntryFields ((s.matching r).take 8) ++ Wire.flag (!((s.matching r).drop 8).isEmpty))
        (s.idleReceiver p) := by
    rw [← lt_length_eq_drop_not_isEmpty]
    rfl
  refine ⟨(s.matching r).take 8, (s.matching r).drop 8, takeRequest_done ready ready.anyRole decoded reply, ?ordered,
    ?complete, List.length_take_le _ _, ?rest⟩
  case ordered => rw [whole]; exact s.matching_sorted r
  case complete => rw [whole]; exact s.matching_perm r
  case rest =>
    rw [List.drop_eq_nil_iff, List.length_take]
    omega

end Sys2Proof.Machine
end

section
/-! PROOFS. The queries of the records (02 R44, 03 R54, R61, 08 R165, R166). -/

namespace Sys2Proof.Machine

/-! ### QUERY-TICKET (02 R44) -/

theorem queryTicketReply_notFound {p : Port} {r : QueryTicketReq} {s : State} (absent : s.findTicket r.ticket = none) :
    queryTicketReply p r s = .refuse .notFound := by
  rw [queryTicketReply, absent]

/-- 02 R44: the fields of the part asked for. -/
def ticketPartFields (i : Nat) (t : Ticket) : TicketPart → List Byte
  | .summary => summaryFields i t
  | .weighings => Wire.num 3 t.number ++ Wire.num 1 t.weighings.length ++ t.weighings.flatMap weighEntryFields
  | .lines => Wire.num 3 t.number ++ Wire.num 1 t.lines.length ++ t.lines.flatMap lineEntryFields

theorem queryTicketReply_done {p : Port} {r : QueryTicketReq} {s : State} {i : Nat} {t : Ticket}
    (found : s.findTicket r.ticket = some (i, t)) : queryTicketReply p r s = .done (ticketPartFields i t r.part) s := by
  unfold queryTicketReply
  rw [found]
  obtain ⟨n, part⟩ := r
  cases part with
  | summary => rfl
  | weighings => simp only [ticketPartFields, Wire.list, List.append_assoc]
  | lines => simp only [ticketPartFields, Wire.list, List.append_assoc]

/-! ### QUERY-GRADE (03 R54) -/

theorem State.gradeFields_empty {s : State} {i : Nat} {g : Grade} (empty : g.defn = none) :
    s.gradeFields i g = Wire.num 1 i ++ [0x00, 0x00, 0xFF] ++ Wire.num 5 g.dayLines ++ Wire.num 5 g.dayKg
      ++ Wire.num 5 g.dayValue ++ Wire.flag (s.gradeInUse i) := by
  rw [State.gradeFields, empty]
  simp [Wire.gradeState, Wire.group, Wire.flag, Wire.optNum, Wire.absent]

theorem State.gradeFields_defined {s : State} {i : Nat} {g : Grade} {d : GradeDef} (defined : g.defn = some d) :
    s.gradeFields i g = Wire.num 1 i ++ ([0x01, 0x01] ++ Wire.num 2 d.code ++ Wire.text d.name ++ Wire.num 3 d.price
        ++ Wire.num 2 d.perMille ++ Wire.flag d.restricted ++ Wire.optNum 1 d.holdDays) ++ Wire.num 5 g.dayLines
      ++ Wire.num 5 g.dayKg ++ Wire.num 5 g.dayValue ++ Wire.flag (s.gradeInUse i) := by
  rw [State.gradeFields, defined]
  simp [Wire.gradeState, Wire.group, gradeDefFields, Wire.flag]

theorem queryGradeReply_done {p : Port} {q : QueryGradeReq} {s : State} {i : Nat} {g : Grade}
    (here : s.grades[i]? = some g) (asked : q = .index i ∨ ∃ code, q = .code code ∧ s.gradeIndex code = some i) :
    queryGradeReply p q s = .done (s.gradeFields i g) s := by
  rcases asked with rfl | ⟨code, rfl, found⟩
  · simp only [queryGradeReply, here, Option.getD_some]
  · simp only [queryGradeReply, found, here, Option.getD_some]

/-! ### QUERY-TARE (03 R61) -/

theorem idBefore_asymm {x y : Text} (before : idBefore x y = true) : idBefore y x = false := by
  induction x generalizing y with
  | nil =>
    cases y with
    | nil => rfl
    | cons b y => rfl
  | cons a x ih =>
    cases y with
    | nil => contradiction
    | cons b y =>
      simp only [idBefore, Bool.or_eq_true, Bool.and_eq_true, decide_eq_true_iff, beq_iff_eq, Bool.or_eq_false_iff,
        Bool.and_eq_false_iff, decide_eq_false_iff_not, beq_eq_false_iff_ne] at before ⊢
      rcases before with less | ⟨rfl, rest⟩
      · exact ⟨by omega, .inl fun same => by subst same; omega⟩
      · exact ⟨by omega, .inr (ih rest)⟩

/-- 03 R61: the better one of the entry kept so far and the next entry of the table. -/
def nearerTare (v : Text) (best : Option Tare) (t : Tare) : Option Tare :=
  if idBefore v t.vehicle then
    match best with
    | none => some t
    | some u => if idBefore t.vehicle u.vehicle then some t else some u
  else best

theorem State.tareAfter_eq_foldl (s : State) (v : Text) : s.tareAfter v = (entries s.tares).foldl (nearerTare v) none := rfl

/-- `t` is `e` itself, or comes after it in id order. -/
def Tare.NotBefore (e t : Tare) : Prop := t = e ∨ idBefore e.vehicle t.vehicle = true

theorem Tare.NotBefore.eq {e t : Tare} (later : e.NotBefore t) (not : idBefore e.vehicle t.vehicle ≠ true) : t = e :=
  later.resolve_right not

/-- Where no entry comes before `e`, the better one of two is `e` when either of them is. -/
theorem nearerTare_of_notBefore {v : Text} {e t : Tare} {best : Option Tare} (after : idBefore v e.vehicle = true)
    (next : idBefore v t.vehicle = true → e.NotBefore t) (kept : ∀ u, best = some u → e.NotBefore u) :
    (∀ u, nearerTare v best t = some u → e.NotBefore u)
      ∧ (best = some e ∨ t = e → nearerTare v best t = some e) := by
  unfold nearerTare
  by_cases candidate : idBefore v t.vehicle = true
  · rw [if_pos candidate]
    cases best with
    | none => simpa using next candidate
    | some u =>
      dsimp only
      by_cases earlier : idBefore t.vehicle u.vehicle = true
      · rw [if_pos earlier]
        refine ⟨by simpa using next candidate, ?_⟩
        rintro (⟨⟨⟩⟩ | rfl)
        · rw [(next candidate).eq (by simp [idBefore_asymm earlier])]
        · rfl
      · rw [if_neg earlier]
        refine ⟨kept, ?_⟩
        rintro (here | rfl)
        · exact here
        · rw [(kept u rfl).eq earlier]
  · rw [if_neg candidate]
    refine ⟨kept, ?_⟩
    rintro (here | rfl)
    · exact here
    · exact absurd after candidate

theorem foldl_nearerTare {v : Text} {e : Tare} (after : idBefore v e.vehicle = true) (tares : List Tare)
    (least : ∀ o ∈ tares, idBefore v o.vehicle = true → e.NotBefore o) {best : Option Tare}
    (kept : ∀ u, best = some u → e.NotBefore u) (here : best = some e ∨ e ∈ tares) :
    tares.foldl (nearerTare v) best = some e := by
  induction tares generalizing best with
  | nil => exact here.resolve_right List.not_mem_nil
  | cons t rest ih =>
    obtain ⟨still, takes⟩ := nearerTare_of_notBefore after (least t List.mem_cons_self) kept
    refine ih (fun o ho => least o (List.mem_cons_of_mem t ho)) still ?_
    rcases here with now | later
    · exact .inl (takes (.inl now))
    · rcases List.mem_cons.mp later with rfl | rest
      · exact .inl (takes (.inr rfl))
      · exact .inr rest

/-- 03 R61: the entry after `v` that no other one after `v` comes before. -/
theorem State.tareAfter_eq_some {s : State} {v : Text} {e : Tare} (stored : e ∈ entries s.tares)
    (after : idBefore v e.vehicle = true)
    (least : ∀ o ∈ entries s.tares, idBefore v o.vehicle = true → e.NotBefore o) : s.tareAfter v = some e := by
  rw [State.tareAfter_eq_foldl]
  exact foldl_nearerTare after _ least (fun u none => by contradiction) (.inr stored)

theorem queryTareReply_exact {p : Port} {v : Text} {s : State} {i : Nat} {e : Tare} (found : s.findTare v = some (i, e)) :
    queryTareReply p (.exact v) s = .done (s.tareEntryFields e) s := by
  simp only [queryTareReply, found]

theorem queryTareReply_after {p : Port} {v : Text} {s : State} {e : Tare} (found : s.tareAfter v = some e) :
    queryTareReply p (.after v) s = .done (s.tareEntryFields e) s := by
  simp only [queryTareReply, found]

theorem State.tareEntryFields_eq (s : State) (e : Tare) : s.tareEntryFields e =
    Wire.text e.vehicle ++ Wire.num 3 e.weight ++ Wire.num 1 e.bridge.val ++ Wire.date e.stored
      ++ Wire.date (addDays e.stored s.tareValidity)
      ++ (if s.clock.valid then Wire.flag (!dateBefore (addDays e.stored s.tareValidity) s.clock.now.date) else [0xFF])
      ++ Wire.num 2 s.tareValidity ++ Wire.num 1 (entries s.tares).length := by
  unfold State.tareEntryFields
  cases s.clock.valid <;> rfl

/-! ### QUERY-JOURNAL (08 R165) -/

/-- 08 R165: the entry asked for. -/
def State.journalEntry (s : State) : QueryJournalReq → Option JournalEntry
  | .serial n => s.journal.find? fun e => e.serial == n
  | .newest => s.journal.getLast?

section Journal

variable {p : Port} {q : QueryJournalReq} {s : State}

theorem queryJournalReply_notFound (absent : s.journalEntry q = none) : queryJournalReply p q s = .refuse .notFound := by
  cases q with
  | serial n => rw [State.journalEntry] at absent; simp only [queryJournalReply, absent]
  | newest => rw [State.journalEntry] at absent; simp only [queryJournalReply, absent]

theorem queryJournalReply_done {e : JournalEntry} (found : s.journalEntry q = some e) :
    queryJournalReply p q s = .done (s.journalFields e) s := by
  cases q with
  | serial n => rw [State.journalEntry] at found; simp only [queryJournalReply, found]
  | newest => rw [State.journalEntry] at found; simp only [queryJournalReply, found]

end Journal

theorem State.journalFields_eq (s : State) (e : JournalEntry) : s.journalFields e =
    Wire.num 4 e.serial ++ Wire.jobKind e.kind ++ Wire.optNum 3 e.ticket ++ Wire.optNum 1 (e.till.map Fin.val)
      ++ Wire.optNum 4 e.copyOf ++ Wire.optNum 4 e.amount ++ Wire.num 1 e.port.val ++ Wire.journalOutcome e.outcome
      ++ Wire.num 1 e.restarts ++ Wire.num 2 s.journal.length ++ Wire.num 4 ((s.journal.map JournalEntry.serial).headD 0)
      ++ Wire.num 4 s.serialCounter := by
  unfold State.journalFields
  cases s.journal <;> rfl

/-! ### QUERY-TOTALS (08 R166) -/

/-- Each entry of a list with its index, by the indices or by the entries. -/
theorem filterMap_range_eq_zipIdx {α β : Type} (h : Nat → α → Option β) (l : List α) :
    ((List.range l.length).filterMap fun i => l[i]?.bind (h i)) = l.zipIdx.filterMap fun x => h x.2 x.1 := by
  induction l using List.reverseRecOn with
  | nil => rfl
  | append_singleton l a ih =>
    have before : ((List.range l.length).filterMap fun i => (l ++ [a])[i]?.bind (h i)) =
        (List.range l.length).filterMap fun i => l[i]?.bind (h i) :=
      List.filterMap_congr fun i hi => by rw [List.getElem?_append_left (List.mem_range.mp hi)]
    rw [List.length_append, List.length_singleton, List.range_succ, List.filterMap_append, before, ih, List.zipIdx_append,
      List.filterMap_append]
    simp [List.filterMap_cons]

/-- 08 R166: the row of grade `g` at index `i`, when it is asked for. -/
def askedRow (start i : Nat) (g : Grade) : Option (List Byte) :=
  if start ≤ i ∧ 0 < g.dayLines then
    some (Wire.num 1 i ++ Wire.text ((g.defn.map (·.name)).getD []) ++ Wire.num 5 g.dayLines ++ Wire.num 5 g.dayKg
      ++ Wire.num 5 g.dayValue)
  else none

theorem askedRow_none {start i : Nat} {g : Grade} (not : ¬ (start ≤ i ∧ 0 < g.dayLines)) : askedRow start i g = none :=
  if_neg not

/-- 08 R166: the row of a grade and its index. -/
def gradeRow (x : Grade × Nat) : GradeRow :=
  { index := x.2, name := (x.1.defn.map (·.name)).getD [], lines := x.1.dayLines, kg := x.1.dayKg, value := x.1.dayValue }

theorem askedRow_some {start i : Nat} {g : Grade} (reached : start ≤ i) (counted : 0 < g.dayLines) :
    askedRow start i g = some (gradeRowFields (gradeRow (g, i))) := if_pos ⟨reached, counted⟩

theorem State.gradeRows_eq (s : State) :
    s.gradeRows = (s.grades.zipIdx.filter fun g => decide (0 < g.1.dayLines)).map gradeRow := rfl

/-- 08 R166: the grade rows from index `start` on. -/
def State.askedRows (s : State) (start : Nat) : List (List Byte) :=
  (List.range s.grades.length).filterMap fun i => s.grades[i]?.bind (askedRow start i)

theorem State.askedRows_eq (s : State) (start : Nat) :
    s.askedRows start = (s.gradeRows.filter fun r => decide (start ≤ r.index)).map gradeRowFields := by
  rw [State.askedRows, filterMap_range_eq_zipIdx, State.gradeRows_eq]
  induction s.grades.zipIdx with
  | nil => rfl
  | cons x rest ih =>
    obtain ⟨g, i⟩ := x
    rw [List.filterMap_cons, ih]
    by_cases counted : 0 < g.dayLines
    · by_cases reached : start ≤ i
      · simp [askedRow_some reached counted, counted, reached, gradeRow]
      · simp [askedRow_none (fun both => reached both.1), counted, reached, gradeRow]
    · simp [askedRow_none (fun both => counted both.2), counted]

theorem State.dayAnswerFields_eq (s : State) (start : Nat) : s.dayAnswerFields start =
    dayTotalsFields s.day ++ Wire.num 1 (min 4 (s.askedRows start).length) ++ ((s.askedRows start).take 4).flatten
      ++ Wire.flag (decide (4 < (s.askedRows start).length)) := by
  rw [State.askedRows_eq, List.length_map, ← List.map_take, ← List.flatMap_def, ← List.length_take]
  simp only [State.dayAnswerFields, Wire.list, List.append_assoc]

/-! ### The obligation -/

/-- Settles O29: each query answers its record, and leaves the state as its console heard it. -/
theorem recordQueries : Obligations.RecordQueries := by
  refine ⟨fun p fields r i t s decoded ready => ⟨fun absent => ?noTicket, fun found => ?ticket⟩,
    fun p fields s ready => ⟨fun q i g decoded here asked => ?grade, fun q e decoded stored asked => ?tare⟩,
    fun p fields s ready => ⟨fun q decoded => ?journal, fun decoded => ?grand, fun start decoded => ?day⟩⟩
  case noTicket => exact takeRequest_refused ready ready.anyRole decoded (queryTicketReply_notFound absent)
  case ticket =>
    have answer : exec (.queryTicket p fields) s = .next (s.answered p 0x50 .done (ticketPartFields i t r.part)) :=
      takeRequest_done ready ready.anyRole decoded (queryTicketReply_done found)
    rw [answer, ← State.findTicket_number found]
    cases r.part <;> rfl
  case grade =>
    have answer : exec (.queryGrade p fields) s = .next (s.answered p 0x53 .done (s.gradeFields i g)) :=
      takeRequest_done ready ready.anyRole decoded (queryGradeReply_done here asked)
    rw [answer]
    cases defined : g.defn with
    | none => rw [State.gradeFields_empty defined]
    | some d => rw [State.gradeFields_defined defined]
  case tare =>
    rw [← State.tareEntryFields_eq]
    rcases asked with ⟨v, i, rfl, found⟩ | ⟨v, rfl, after, least⟩
    · exact takeRequest_done ready ready.anyRole decoded (queryTareReply_exact found)
    · have found : s.tareAfter v = some e := State.tareAfter_eq_some stored after least
      exact takeRequest_done ready ready.anyRole decoded (queryTareReply_after found)
  case journal =>
    intro wanted
    have asked : wanted = s.journalEntry q := by cases q <;> rfl
    cases entry : s.journalEntry q with
    | none =>
      rw [asked, entry]
      exact takeRequest_refused ready ready.anyRole decoded (queryJournalReply_notFound entry)
    | some e =>
      rw [asked, entry]
      dsimp only
      rw [← State.journalFields_eq]
      exact takeRequest_done ready ready.anyRole decoded (queryJournalReply_done entry)
  case grand => exact takeRequest_done ready ready.anyRole decoded rfl
  case day =>
    intro rows d
    have answer : exec (.queryTotals p fields) s = .next (s.answered p 0x58 .done (s.dayAnswerFields start)) :=
      takeRequest_done ready ready.anyRole decoded rfl
    rw [answer, State.dayAnswerFields_eq]
    rfl

end Sys2Proof.Machine
end

section
/-! PROOFS. Grade codes, named grades and vehicle ids under every step (03 R46, R47, R51, R55): the law fails at a backup power-on
reset that meets a weighing pending in main reset. -/

namespace Sys2Proof.Machine

/-- 03 R46: a grade of code 1. -/
def scrapGrade : GradeDef := { code := 1, name := [0x41#8], price := 0, perMille := 0, restricted := false, holdDays := none }

/-- 01 R12: a pending DROP weighing that names the grade of index 0. -/
def dropOfGradeZero : Weighing := { console := 1, task := .drop 1 0 none, deadline := 15 }

/-- The part in main reset, with one grade DEFINED, that grade named by a weighing still pending at bridge 0, and a backup
power-on reset to be taken. -/
def weighingInReset : State :=
  { State.reset with
    resetByPin := true
    bridges := ⟨{ resetBridge defaultConfig .clear .clear with weighing := some dropOfGradeZero },
      resetBridge defaultConfig .clear .clear⟩
    grades := State.reset.grades.set 0 { emptyGrade with defn := some scrapGrade }
    pending := [.backupPowerOnReset] }

theorem weighingInReset_weighing {b : BridgeId} {x : Weighing} (pending : (weighingInReset.bridge b).weighing = some x) :
    x = dropOfGradeZero := by
  fin_cases b
  · exact (Option.some.inj pending).symm
  · exact absurd pending (by simp [weighingInReset, State.bridge, Pair.get, resetBridge])

theorem weighingInReset_definitions : weighingInReset.grades.filterMap (·.defn) = [scrapGrade] := rfl

theorem weighingInReset_gradesSound : weighingInReset.GradesSound := by
  refine ⟨?distinct, ?ranges, ?lines, ?weighings⟩
  case distinct => rw [weighingInReset_definitions]; decide
  case ranges => rw [weighingInReset_definitions]; decide
  case lines =>
    intro t ht
    rw [show entries weighingInReset.tickets = [] from entries_none _] at ht
    contradiction
  case weighings =>
    intro b x g pending names
    obtain rfl := weighingInReset_weighing pending
    obtain rfl : 0 = g := Option.some.inj names
    rfl

/-- 11 R203: the part is in main reset already, so the backup power-on reset loses no main-domain state and only sets the
backup domain to its power-on values. -/
theorem step_weighingInReset :
    step weighingInReset = .next ({ weighingInReset with pending := [] }.assertBy .vcore).backupDefaults := rfl

/-- 11 R203: every grade entry is EMPTY after a backup power-on reset. -/
theorem backupDefaults_gradeDef (s : State) (i : Nat) : s.backupDefaults.gradeDef i = none := by
  refine Option.bind_eq_none_iff.mpr fun g here => ?_
  rw [List.eq_of_mem_replicate (List.mem_of_getElem? here)]
  rfl

/-- Refutes O56: `GradesSound` alone does not say that nothing is weighed in main reset (`ClaimsSound` does), and there a backup
power-on reset empties the grade table and leaves the pending weighing that names grade 0. -/
theorem not_stepsKeepGradesAndTares : ¬ Obligations.StepsKeepGradesAndTares := by
  intro law
  obtain ⟨-, -, -, named⟩ := (law _ _ step_weighingInReset).1 weighingInReset_gradesSound
  have defined := named 0 dropOfGradeZero 0 rfl rfl
  rw [backupDefaults_gradeDef] at defined
  contradiction

end Sys2Proof.Machine
end

section
/-! PROOFS. The requests that set the grade and tare tables: SET-GRADE, REMOVE-GRADE, DELETE-TARE and SET-TARE-VALIDITY (03 R48,
R51, R62). -/

namespace Sys2Proof.Machine

/-- 03 R48: a code that is carried at index `i` or nowhere. -/
theorem State.codeElsewhere_eq_false {s : State} {i code : Nat}
    (own : ∀ j d, s.gradeDef j = some d → d.code = code → j = i) : s.codeElsewhere i code = false := by
  refine List.any_eq_false.mpr fun x hx => ?_
  have here := List.mem_zipIdx_iff_getElem?.mp hx
  cases defined : x.1.defn with
  | none => simp
  | some d =>
    have at_i := own x.2 d (by simp [State.gradeDef, here, defined])
    simpa [imp_not_comm] using at_i

section Replies

variable {p : Port} {s : State}

theorem setGradeReply_done {r : SetGradeReq} {g : Grade}
    (own : ∀ j d, s.gradeDef j = some d → d.code = r.grade.code → j = r.index) (here : s.grades[r.index]? = some g) :
    setGradeReply p r s = .done (Wire.num 1 r.index ++ gradeDefFields r.grade ++ Wire.optNum 1 r.grade.holdDays
        ++ Wire.flag (wasEmptyFlag g.defn.isNone))
      { s with grades := s.grades.set r.index { g with defn := some r.grade } } := by
  simp only [setGradeReply, State.codeElsewhere_eq_false own, here, Bool.false_eq_true, if_false]

theorem removeGradeReply_done {code i : Nat} {g : Grade} (found : s.gradeIndex code = some i) (here : s.grades[i]? = some g)
    (unused : s.gradeInUse i = false) : removeGradeReply p code s =
      .done (Wire.num 1 i) { s with grades := s.grades.set i { g with defn := none } } := by
  have emptied : s.grades.modify i (fun g => { g with defn := none }) = s.grades.set i { g with defn := none } := by
    rw [List.modify_eq_set_getElem?, here]
    rfl
  simp only [removeGradeReply, found, unused, emptied, Bool.false_eq_true, if_false]

theorem deleteTareReply_done {v : Text} {i : Nat} {e : Tare} (found : s.findTare v = some (i, e)) :
    deleteTareReply p v s = .done (Wire.num 3 e.weight ++ Wire.num 1 e.bridge.val ++ Wire.date e.stored)
      { s with tares := s.tares.set i none } := by
  simp only [deleteTareReply, found, Wire.bridge]

end Replies

/-- Settles O30: each reply writes its own table, which the console's receiver is no part of. -/
theorem gradeAndTareSettings : Obligations.GradeAndTareSettings := by
  refine ⟨fun p fields r g s decoded ready here own => ?set,
    fun p fields s ready => ⟨fun code i g decoded found here unlined unweighed => ?remove,
      fun v i e decoded found => ?delete, fun days decoded => ?validity⟩⟩
  case set =>
    have reply := setGradeReply_done (p := p) (s := s.idleReceiver p) own here
    simp only [gradeDefFields, wasEmptyFlag, ← List.append_assoc] at reply
    exact takeRequest_done ready rfl decoded reply
  case remove =>
    have unused : s.gradeInUse i = false := by
      refine Bool.eq_false_iff.mpr fun used => ?_
      rcases State.gradeInUse_iff.mp used with ⟨t, ht, l, hl, same⟩ | ⟨b, x, pending, names⟩
      · exact unlined t ht l hl same
      · exact unweighed b x pending names
    exact takeRequest_done ready rfl decoded (removeGradeReply_done found here unused)
  case delete => exact takeRequest_done ready rfl decoded (deleteTareReply_done found)
  case validity => exact takeRequest_done ready rfl decoded rfl

end Sys2Proof.Machine
end

section
/-! PROOFS. STORE_TARE captures (03 R56, R60): the position that a captured tare takes, and the entry that it evicts. -/

namespace Sys2Proof.Machine

/-! ### The entry to evict (03 R56) -/

/-- 03 R56: the better one of the entry kept so far and the next entry of the table. -/
def State.olderTare (s : State) (best : Option (Nat × Tare)) (x : Nat × Tare) : Option (Nat × Tare) :=
  if s.tareExpired x.2 then
    match best with
    | none => some x
    | some y => if dateBefore x.2.stored y.2.stored then some x else some y
  else best

/-- The entries of `xs` with their positions, counted from `k`. -/
def placedTares (xs : List (Option Tare)) (k : Nat) : List (Nat × Tare) :=
  (xs.zipIdx k).filterMap fun x => x.1.map fun t => (x.2, t)

theorem State.evictee_eq_foldl (s : State) : s.evictee = (placedTares s.tares 0).foldl s.olderTare none := rfl

theorem mem_placedTares {xs : List (Option Tare)} {k : Nat} {x : Nat × Tare} :
    x ∈ placedTares xs k ↔ k ≤ x.1 ∧ xs[x.1 - k]? = some (some x.2) := by
  obtain ⟨i, t⟩ := x
  simp [placedTares, List.mem_zipIdx_iff_le_and_getElem?_sub]

/-- The entry at position `i` parts the table into the entries before it and those after it. -/
theorem placedTares_split {xs : List (Option Tare)} {i : Nat} {t : Tare} (here : xs[i]? = some (some t)) :
    placedTares xs 0 = placedTares (xs.take i) 0 ++ (i, t) :: placedTares (xs.drop (i + 1)) (i + 1) := by
  obtain ⟨bound, at_i⟩ := List.getElem?_eq_some_iff.mp here
  have parts : xs = xs.take i ++ some t :: xs.drop (i + 1) := by
    rw [← at_i, ← List.drop_eq_getElem_cons bound, List.take_append_drop]
  conv_lhs => rw [parts]
  simp [placedTares, List.zipIdx_append, List.zipIdx_cons, Nat.min_eq_left bound.le]

section StoreTare

variable {s : State}

theorem State.olderTare_unexpired {best : Option (Nat × Tare)} {x : Nat × Tare} (lasting : s.tareExpired x.2 = false) :
    s.olderTare best x = best := if_neg (by simp [lasting])

/-- An entry takes the place of any that was stored later. -/
theorem State.olderTare_takes {best : Option (Nat × Tare)} {x : Nat × Tare} (expired : s.tareExpired x.2 = true)
    (earlier : ∀ y ∈ best, dateBefore x.2.stored y.2.stored = true) : s.olderTare best x = some x := by
  cases best with
  | none => simp [State.olderTare, expired]
  | some y => simp [State.olderTare, expired, earlier y rfl]

/-- An entry keeps its place against any that was not stored earlier. -/
theorem State.olderTare_keeps {x y : Nat × Tare}
    (noEarlier : s.tareExpired x.2 = true → dateBefore x.2.stored y.2.stored = false) : s.olderTare (some y) x = some y := by
  cases expired : s.tareExpired x.2 with
  | false => exact State.olderTare_unexpired expired
  | true => simp [State.olderTare, expired, noEarlier expired]

theorem State.olderTare_cases (s : State) (best : Option (Nat × Tare)) (x : Nat × Tare) :
    s.olderTare best x = best ∨ (s.tareExpired x.2 = true ∧ s.olderTare best x = some x) := by
  cases expired : s.tareExpired x.2 with
  | false => exact .inl (State.olderTare_unexpired expired)
  | true =>
    cases best with
    | none => simp [State.olderTare, expired]
    | some y => cases earlier : dateBefore x.2.stored y.2.stored <;> simp [State.olderTare, expired, earlier]

/-- No entry is kept but an expired one of the table. -/
theorem State.foldl_olderTare_mem {xs : List (Nat × Tare)} {best : Option (Nat × Tare)} {y : Nat × Tare}
    (kept : xs.foldl s.olderTare best = some y) : best = some y ∨ (y ∈ xs ∧ s.tareExpired y.2 = true) := by
  induction xs generalizing best with
  | nil => exact .inl kept
  | cons x rest ih =>
    rcases ih kept with now | ⟨later, expired⟩
    · rcases s.olderTare_cases best x with same | ⟨expired, taken⟩
      · exact .inl (same.symm.trans now)
      · obtain rfl := Option.some.inj (taken.symm.trans now)
        exact .inr ⟨List.mem_cons_self, expired⟩
    · exact .inr ⟨List.mem_cons_of_mem x later, expired⟩

theorem State.foldl_olderTare_keeps {xs : List (Nat × Tare)} {y : Nat × Tare}
    (noEarlier : ∀ x ∈ xs, s.tareExpired x.2 = true → dateBefore x.2.stored y.2.stored = false) :
    xs.foldl s.olderTare (some y) = some y := by
  induction xs with
  | nil => rfl
  | cons x rest ih =>
    rw [List.foldl_cons, State.olderTare_keeps (noEarlier x List.mem_cons_self)]
    exact ih fun z hz => noEarlier z (List.mem_cons_of_mem x hz)

/-- 03 R56: the expired entry stored earliest, at the lowest position on a tie, is the one to evict. -/
theorem State.evictee_eq_some {i : Nat} {old : Tare} (here : s.tares[i]? = some (some old))
    (expired : s.tareExpired old = true)
    (earliest : ∀ j other, s.tares[j]? = some (some other) → s.tareExpired other = true →
      dateBefore other.stored old.stored = false ∧ (dateBefore old.stored other.stored = true ∨ i ≤ j)) :
    s.evictee = some (i, old) := by
  rw [State.evictee_eq_foldl, placedTares_split here, List.foldl_append, List.foldl_cons]
  have before : ∀ y ∈ (placedTares (s.tares.take i) 0).foldl s.olderTare none,
      dateBefore old.stored y.2.stored = true := by
    intro y kept
    obtain ⟨placed, expired⟩ := (State.foldl_olderTare_mem kept).resolve_left nofun
    obtain ⟨-, at_y⟩ := mem_placedTares.mp placed
    rw [Nat.sub_zero, List.getElem?_take] at at_y
    split at at_y
    · rename_i lower
      obtain ⟨-, strictly⟩ := earliest y.1 y.2 at_y expired
      exact strictly.resolve_right (Nat.not_le.mpr lower)
    · contradiction
  rw [State.olderTare_takes (x := (i, old)) expired before]
  refine State.foldl_olderTare_keeps fun x placed expired => ?_
  obtain ⟨after, at_x⟩ := mem_placedTares.mp placed
  rw [List.getElem?_drop, Nat.add_sub_cancel' after] at at_x
  exact (earliest x.1 x.2 at_x expired).1

/-- 03 R60: nothing is evicted where no entry has expired. -/
theorem State.evictee_eq_none (lasting : ∀ old ∈ entries s.tares, s.tareExpired old = false) : s.evictee = none := by
  cases found : s.evictee with
  | none => rfl
  | some y =>
    obtain ⟨placed, expired⟩ := (State.foldl_olderTare_mem found).resolve_left nofun
    obtain ⟨-, here⟩ := mem_placedTares.mp placed
    rw [lasting y.2 (mem_entries.mpr (List.mem_of_getElem? here))] at expired
    contradiction

/-! ### The position that a tare takes (03 R60) -/

/-- The lowest position that is empty. -/
theorem firstEmpty_eq_some_of_lowest {α : Type} {xs : List (Option α)} {i : Nat} (empty : xs[i]? = some none)
    (lowest : ∀ j < i, xs[j]? ≠ some none) : firstEmpty xs = some i := by
  cases found : firstEmpty xs with
  | none => exact absurd (List.mem_of_getElem? empty) (firstEmpty_none.mp found)
  | some j =>
    obtain ⟨free, first⟩ := firstEmpty_some found
    rcases lt_trichotomy i j with less | rfl | more
    · exact absurd empty (first i less)
    · rfl
    · exact absurd free (lowest j more)

/-- 03 R60: the entry that a STORE_TARE capture of `w` kg at bridge `b` makes for vehicle `v`. -/
def State.newTare (s : State) (b : BridgeId) (w : Nat) (v : Text) : Tare := ⟨v, w, b, s.today⟩

variable {b : BridgeId} {w i : Nat} {v : Text} {old : Tare}

theorem State.deliverStoreTare_replaces (found : s.findTare v = some (i, old)) : s.deliverStoreTare b w v =
    ⟨.done, none, s.tareFields (s.newTare b w v) true none, { s with tares := s.tares.set i (some (s.newTare b w v)) }⟩ := by
  simp only [State.deliverStoreTare, State.newTare, found]

theorem State.deliverStoreTare_fills (absent : s.findTare v = none) (empty : firstEmpty s.tares = some i) :
    s.deliverStoreTare b w v =
      ⟨.done, none, s.tareFields (s.newTare b w v) false none, { s with tares := s.tares.set i (some (s.newTare b w v)) }⟩ := by
  simp only [State.deliverStoreTare, State.newTare, absent, empty]

theorem State.deliverStoreTare_evicts (absent : s.findTare v = none) (full : firstEmpty s.tares = none)
    (evicted : s.evictee = some (i, old)) : s.deliverStoreTare b w v =
      ⟨.done, none, s.tareFields (s.newTare b w v) false (some old.vehicle),
        { s with tares := s.tares.set i (some (s.newTare b w v)) }⟩ := by
  simp only [State.deliverStoreTare, State.newTare, absent, full, evicted]

theorem State.deliverStoreTare_full (absent : s.findTare v = none) (full : firstEmpty s.tares = none)
    (lasting : s.evictee = none) : s.deliverStoreTare b w v = ⟨.tableFull, none, [], s⟩ := by
  simp only [State.deliverStoreTare, absent, full, lasting]

end StoreTare

/-- Settles O21: the delivery of each case, made at the counted bridge, then `exec_capture`. -/
theorem storeTareCaptureKeepsTheTare : Obligations.StoreTareCaptureKeepsTheTare := by
  intro b raw status x cls v w s capture good task weight enough fits e expiry result
  have delivered := State.deliver_storeTare s b raw.toInt x v w task enough fits
  have stored {i : Nat} {replaced : Bool} {evicted : Option Text}
      (delivery : (s.afterCount b raw.toInt).deliverStoreTare b w v = ⟨.done, none,
        (s.afterCount b raw.toInt).tareFields ((s.afterCount b raw.toInt).newTare b w v) replaced evicted,
        { s.afterCount b raw.toInt with
          tares := s.tares.set i (some ((s.afterCount b raw.toInt).newTare b w v)) }⟩) :
      exec (.sampleEvent b raw status) s = result { s with tares := s.tares.set i (some e) } .done
        (Wire.text v ++ Wire.date e.stored ++ Wire.date expiry ++ Wire.flag replaced ++ Wire.optText evicted) := by
    rw [exec_capture (u := { s with tares := s.tares.set i (some e) }) capture good weight (delivered.trans delivery), task]
    rfl
  refine ⟨fun i old found => stored (State.deliverStoreTare_replaces found),
    fun absent i empty lowest => stored (State.deliverStoreTare_fills absent (firstEmpty_eq_some_of_lowest empty lowest)),
    fun absent full => ⟨fun i old here expired earliest => ?evicts, fun lasting => ?full⟩⟩
  case evicts =>
    exact stored (State.deliverStoreTare_evicts absent (firstEmpty_none.mpr full)
      (State.evictee_eq_some (s := s.afterCount b raw.toInt) here expired earliest))
  case full =>
    have refused := delivered.trans (State.deliverStoreTare_full absent (firstEmpty_none.mpr full)
      (State.evictee_eq_none (s := s.afterCount b raw.toInt) lasting))
    rw [exec_capture capture good weight refused, task]
    rfl

end Sys2Proof.Machine
end

section
/-! PROOFS. APPLY-STORED-TARE (03 R57, R58, 04 R73 to R75): the ticket closed by the weight stored for its vehicle. -/

namespace Sys2Proof.Machine

section Apply

variable {p : Port} {r : ApplyTareReq} {s : State} {g i j : Nat} {t : Ticket} {v : Text} {e : Tare}
  (grade : s.gradeIndex r.code = some g) (found : s.findTicket r.ticket = some (i, t)) (vehicle : t.vehicle = some v)
  (stored : s.findTare v = some (j, e)) (passed : firstFailure (applyTareChecks s r) = none)
include grade found vehicle stored passed

/-- 03 R57: what the checks leave to hold of the ticket, the clock and the stored tare. -/
theorem applyTareChecks_passed : t.state = .loaded ∧ t.pending = none ∧ s.clock.valid = true ∧ s.tareExpired e = false
    ∧ ((s.bridge e.bridge).config.division : Int) ≤ (t.lastWeight : Int) - e.weight := by
  rw [firstFailure_none] at passed
  simpa [applyTareChecks, State.ticket, grade, found, vehicle, stored] using passed

/-- 03 R58: APPLY-STORED-TARE past its checks closes the ticket as `t'` with figures `f`. -/
theorem applyTareReply_closes {t' : Ticket} {f : SettlementFigures} (closing : t' = settleTicket s.grades s.clock
      (t.append ⟨.storedTare, e.weight, e.bridge, s.stamp⟩ g r.manual)) (figures : t'.settlement = some ⟨f, none⟩) :
    applyTareReply p r s = .done (Wire.num 3 r.ticket ++ Wire.num 3 e.weight ++ Wire.num 1 e.bridge.val ++ Wire.date e.stored
      ++ Wire.num 1 t.weighings.length ++ Wire.num 3 (t.lastWeight - e.weight) ++ s.outcomeFields p t' f)
      (s.closed i t' p) := by
  obtain ⟨loaded, unmarked, valid, unexpired, lower⟩ := applyTareChecks_passed grade found vehicle stored passed
  have higher : ¬ (t.lastWeight : Int) - e.weight < (s.bridge e.bridge).config.division := not_lt.mpr lower
  subst closing
  simp only [applyTareReply, grade, found, vehicle, stored, loaded, unmarked, valid, unexpired, higher, ne_eq,
    not_true_eq_false, Option.isSome_none, Bool.not_true, Bool.false_eq_true, if_false,
    State.closeTicket_eq s s i _ p rfl rfl rfl, settlementFields_eq s _ f p figures, Wire.bridge]

end Apply

/-- Settles O31: the reply closes the ticket, which the console's receiver is no part of. -/
theorem applyStoredTareClosesTheTicket : Obligations.ApplyStoredTareClosesTheTicket := by
  intro p fields r g i j t v e last s decoded ready passed grade found vehicle stored lastOf
  have appended : t.append ⟨.storedTare, e.weight, e.bridge, s.stamp⟩ g r.manual = { t with
      pending := none, weighings := t.weighings ++ [⟨.storedTare, e.weight, e.bridge, s.stamp⟩]
      lines := t.lines ++ [⟨g, last.weight - e.weight, r.manual, none⟩] } := by
    rw [Ticket.append, Ticket.lastWeight_eq lastOf]
  have reply := applyTareReply_closes (p := p) (s := s.idleReceiver p) grade found vehicle stored passed rfl rfl
  rw [State.idleReceiver_closed, Ticket.lastWeight_eq lastOf] at reply
  exact ⟨_, _, by rw [← appended]; rfl, rfl, takeRequest_done ready rfl decoded reply⟩

end Sys2Proof.Machine
end

section
/-! PROOFS. The first settlement of a ticket (04 R64 to R72): the bound lines, the longest hold, and the limits of the figures. -/

namespace Sys2Proof.Machine

/-! ### The hold that bound lines ask for (04 R72) -/

/-- 04 R64: the line is settled, and its bound hold days, at least 1, stand exactly where it is restricted. -/
def Line.HoldBound (l : Line) : Prop :=
  ∃ x, l.settlement = some x ∧ (x.restricted = true ↔ x.holdDays.isSome = true) ∧ ∀ n ∈ x.holdDays, 1 ≤ n

theorem Line.hold_eq {l : Line} {x : LineSettlement} (settled : l.settlement = some x)
    (restricted : x.restricted = true ↔ x.holdDays.isSome = true) : l.hold = x.holdDays.getD 0 := by
  have bound : l.restricted = x.holdDays.isSome := by
    rw [Line.restricted, settled]
    exact Bool.eq_iff_iff.mpr restricted
  rw [Line.hold, bound, settled]
  cases days : x.holdDays <;> simp [days]

theorem Line.HoldBound.hold_pos_iff {l : Line} (bound : l.HoldBound) : 0 < l.hold ↔ l.restricted = true := by
  obtain ⟨x, settled, restricted, days⟩ := bound
  have same : l.restricted = x.restricted := by simp [Line.restricted, settled]
  rw [Line.hold_eq settled restricted, same, restricted]
  cases hold : x.holdDays with
  | none => simp
  | some n => exact ⟨fun _ => rfl, fun _ => days n hold⟩

/-- 04 R72: the hold of a ticket is the maximum of what its lines ask for, and of 0. -/
theorem holdDays_eq_max (lines : List Line) : holdDays lines = ((lines.map Line.hold).max?).getD 0 := by
  rw [holdDays, ← List.foldl_map (f := Line.hold) (g := max), List.foldl_max]
  exact Nat.zero_max _

theorem hold_le_holdDays {lines : List Line} {l : Line} (mem : l ∈ lines) : l.hold ≤ holdDays lines := by
  have asked : l.hold ∈ lines.map Line.hold := List.mem_map_of_mem mem
  rw [holdDays_eq_max]
  cases longest : (lines.map Line.hold).max? with
  | none => rw [List.max?_eq_none_iff.mp longest] at asked; cases asked
  | some m => exact (List.max?_eq_some_iff.mp longest).2 _ asked

theorem exists_hold_eq_holdDays {lines : List Line} (held : holdDays lines ≠ 0) : ∃ l ∈ lines, l.hold = holdDays lines := by
  rw [holdDays_eq_max] at held ⊢
  cases longest : (lines.map Line.hold).max? with
  | none => simp [longest] at held
  | some m => exact List.mem_map.mp (List.max?_eq_some_iff.mp longest).1

section Bound

variable {lines : List Line} (bound : ∀ l ∈ lines, l.HoldBound)
include bound

/-- 04 R72: a ticket asks for a hold exactly where a line of it is restricted. -/
theorem holdDays_pos_iff_restricted : 0 < holdDays lines ↔ lines.any Line.restricted = true := by
  rw [holdDays_pos_iff, List.any_eq_true]
  exact exists_congr fun l => and_congr_right fun mem => (bound l mem).hold_pos_iff

theorem boundHold_le_holdDays {l : Line} (mem : l ∈ lines) {x : LineSettlement} (settled : l.settlement = some x) {n : Nat}
    (days : x.holdDays = some n) : n ≤ holdDays lines := by
  obtain ⟨y, same, restricted, -⟩ := bound l mem
  obtain rfl : y = x := Option.some.inj (same.symm.trans settled)
  simpa [Line.hold_eq settled restricted, days] using hold_le_holdDays mem

/-- 04 R72: the hold of a ticket is the bound hold of one of its lines, where it is not 0. -/
theorem holdDays_eq_zero_or_bound :
    holdDays lines = 0 ∨ ∃ l ∈ lines, ∃ x ∈ l.settlement, x.holdDays = some (holdDays lines) := by
  refine or_iff_not_imp_left.mpr fun held => ?_
  obtain ⟨l, mem, asked⟩ := exists_hold_eq_holdDays held
  obtain ⟨x, settled, restricted, -⟩ := bound l mem
  refine ⟨l, mem, x, settled, ?_⟩
  rw [← asked, Line.hold_eq settled restricted] at held ⊢
  cases days : x.holdDays with
  | none => simp [days] at held
  | some n => rfl

end Bound

/-! ### The lines of a first settlement (04 R64 to R68) -/

/-- 04 R64, R66 to R68: a net and a manual deduction computed under the definition `d`. -/
def settlementUnder (d : GradeDef) (net : Nat) (manual : Option Nat) : LineSettlement :=
  computeLine net manual ⟨d.price, d.perMille, d.restricted, d.holdDays, 0, 0, 0⟩

/-- 04 R64: a line whose grade is DEFINED, hold days exactly where it is restricted, binds all of the definition. -/
theorem settleLine_of_defined {grades : List Grade} {l : Line} {d : GradeDef}
    (defined : (grades[l.grade]?).bind (·.defn) = some d) (restricted : d.restricted = true ↔ d.holdDays.isSome = true) :
    settleLine grades l = { l with settlement := some (settlementUnder d l.net l.manual) } := by
  have whole : (if d.restricted = true then d.holdDays else none) = d.holdDays := by
    split
    · rfl
    · rename_i free
      exact (Option.not_isSome_iff_eq_none.mp fun some => free (restricted.mpr some)).symm
  rw [settleLine, defined, boundFields, whole]
  rfl

theorem settleLine_holdBound {grades : List Grade} {l : Line} {d : GradeDef}
    (defined : (grades[l.grade]?).bind (·.defn) = some d) (restricted : d.restricted = true ↔ d.holdDays.isSome = true)
    (days : ∀ n ∈ d.holdDays, 1 ≤ n) : (settleLine grades l).HoldBound := by
  rw [settleLine_of_defined defined restricted]
  exact ⟨_, rfl, restricted, days⟩

/-! ### The limits of the figures (04 R67, R70) -/

/-- 02 R24: the nets of the lines fall below the first weight, step by step, to the last. -/
theorem netsAgree_sum_le {a : WeighEntry} {ws : List WeighEntry} {ls : List Line} (h : netsAgree (a :: ws) ls = true) :
    (ls.map (·.net)).sum ≤ a.weight := by
  induction ws generalizing a ls with
  | nil =>
    cases ls with
    | nil => exact Nat.zero_le _
    | cons l ls => simp [netsAgree] at h
  | cons b ws ih =>
    cases ls with
    | nil => simp [netsAgree] at h
    | cons l ls =>
      simp only [netsAgree, Bool.and_eq_true, decide_eq_true_eq] at h
      obtain ⟨⟨-, net⟩, rest⟩ := h
      have := ih rest
      simp only [List.map_cons, List.sum_cons]
      omega

theorem WeighingsSound.nets_sum_le {closed : Bool} {ws : List WeighEntry} {ls : List Line} (h : WeighingsSound closed ws ls) :
    (ls.map (·.net)).sum ≤ 200000 := by
  cases ws with
  | nil => cases h.first
  | cons a ws => exact (netsAgree_sum_le h.nets).trans (h.weights a List.mem_cons_self)

/-- 04 R67, R68: what a computed line pays for is at most its net, at the highest price at most. -/
theorem Line.computed_le {l : Line} (h : l.computed = true) {f : LineSettlement} (settled : l.settlement = some f) :
    f.payable ≤ l.net ∧ f.value ≤ l.net * 999999 := by
  simp only [Line.computed, settled, Bool.and_eq_true, decide_eq_true_eq] at h
  obtain ⟨⟨⟨⟨⟨-, whole⟩, value⟩, price⟩, -⟩, -⟩ := h
  have payable : f.payable ≤ l.net := by omega
  exact ⟨payable, value ▸ Nat.mul_le_mul payable price⟩

section Computed

variable {lines : List Line} (computed : ∀ l ∈ lines, l.computed = true)
include computed

theorem payableSum_le_nets : payableSum lines ≤ (lines.map (·.net)).sum := by
  refine List.sum_le_sum fun l mem => ?_
  obtain ⟨f, settled, -⟩ := Line.computed_bound (computed l mem)
  simpa [settled] using (Line.computed_le (computed l mem) settled).1

theorem exactValue_le_nets : exactValue lines ≤ (lines.map (·.net)).sum * 999999 := by
  rw [exactValue, ← List.sum_map_mul_right]
  refine List.sum_le_sum fun l mem => ?_
  obtain ⟨f, settled, -⟩ := Line.computed_bound (computed l mem)
  simpa [settled] using (Line.computed_le (computed l mem) settled).2

end Computed

/-- 04 R67, R70: the figures of a settled ticket that is sound. -/
theorem Ticket.Parts.figures_le {t : Ticket} {x : Settlement} (h : t.Parts) (settled : t.settlement = some x) :
    payableSum t.lines ≤ 200000
    ∧ (∀ l ∈ t.lines, ∀ f ∈ l.settlement, f.payable ≤ l.net ∧ f.value ≤ 199999800000)
    ∧ x.figures.exact ≤ 199999800000 ∧ x.figures.amount ≤ 1999998000 := by
  have figured := h.figured x settled
  have nets := h.weighed.nets_sum_le
  have exact : x.figures.exact ≤ 199999800000 := by
    have := exactValue_le_nets figured.computed
    rw [figured.exact, ← exactValue_eq figured.computed]
    omega
  refine ⟨(payableSum_le_nets figured.computed).trans nets, fun l mem f bound => ?_, exact, ?_⟩
  · obtain ⟨payable, value⟩ := Line.computed_le (figured.computed l mem) bound
    have net : l.net ≤ (t.lines.map (·.net)).sum := List.le_sum_of_mem (List.mem_map_of_mem mem)
    exact ⟨payable, by omega⟩
  · rw [figured.amount]
    omega

/-- Settles O26: every line binds its definition, so the hold is the longest bound one; the limits come from the nets. -/
theorem firstSettlementOfATicket : Obligations.FirstSettlementOfATicket := by
  refine ⟨fun grades clock t defined => ?first, fun t x sound settled => ((t.sound_iff).mp sound).figures_le settled⟩
  have bound : ∀ l ∈ t.lines.map (settleLine grades), l.HoldBound := by
    intro l mem
    obtain ⟨m, named, rfl⟩ := List.mem_map.mp mem
    obtain ⟨d, here, restricted, days⟩ := defined m named
    exact settleLine_holdBound here restricted days
  have restricted := holdDays_pos_iff_restricted bound
  refine ⟨_, _, rfl, rfl, List.length_map .., ?lines, rfl, rfl, rfl,
    fun l mem x settled n days => boundHold_le_holdDays bound mem settled days, holdDays_eq_zero_or_bound bound, ?state, rfl, rfl⟩
  case lines =>
    intro k l d line here
    obtain ⟨e, named, restricted, -⟩ := defined l (List.mem_of_getElem? line)
    obtain rfl : e = d := Option.some.inj (named.symm.trans here)
    refine ⟨settlementUnder e l.net l.manual, ?_, rfl, rfl, rfl, rfl, lineDeduction_eq .., rfl, rfl⟩
    rw [← settleLine_of_defined here restricted]
    simp [settleTicket, line]
  case state =>
    cases free : (t.lines.map (settleLine grades)).any Line.restricted with
    | true => exact .inl ⟨if_pos free, restricted.mpr free⟩
    | false =>
      have unrestricted : ¬ (t.lines.map (settleLine grades)).any Line.restricted = true := by simp [free]
      exact .inr ⟨if_neg unrestricted, Nat.eq_zero_of_not_pos (mt restricted.mp unrestricted)⟩

end Sys2Proof.Machine
end

section
/-! PROOFS. SET-DEDUCTION (04 R78 to R81): one manual deduction set, and every line computed again from its bound fields. -/

namespace Sys2Proof.Machine

/-- 04 R78 step 2: the line of a decoded request is numbered from 1. -/
theorem setDeduction_line_pos {fields : List Byte} {r : SetDeductionReq} (decoded : Decode.setDeduction fields = some r) :
    1 ≤ r.line := by
  simp only [Decode.setDeduction, Option.bind_eq_bind, Option.bind_eq_some_iff, Decode.finish_iff, Bool.and_eq_true,
    decide_eq_true_eq] at decoded
  obtain ⟨_, -, _, -, _, -, -, ⟨⟨-, least, -⟩, -⟩, rfl⟩ := decoded
  exact least

/-- 04 R66, R68, R80: the deduction, payable weight and value of a settled line under the manual deduction `manual`. -/
theorem resettleLine_settled {l : Line} {y : LineSettlement} (settled : l.settlement = some y) (manual : Option Nat) :
    let ded := min l.net (manual.getD ((l.net * y.perMille + 500) / 1000))
    resettleLine { l with manual } = { l with
      manual, settlement := some { y with deduction := ded, payable := l.net - ded, value := (l.net - ded) * y.price } } := by
  simp only [resettleLine, settled, Option.map_some, computeLine, lineDeduction_eq]

/-- 04 R79, R80: every line computed again, that of position `j` under its new manual deduction. -/
theorem resettledLines_getElem? {t : Ticket} {k : Nat} {l : Line} (line : t.lines[k]? = some l) (j : Nat) (manual : Option Nat) :
    (resettledLines t j manual)[k]? = some (resettleLine { l with manual := if k = j then manual else l.manual }) := by
  rw [resettledLines, Ticket.setManual, List.getElem?_map, List.getElem?_modify, line]
  by_cases named : j = k
  · simp [named]
  · simp [named, Ne.symm named]

/-- 04 R79, R80: the settled lines of a ticket, line `n` (from 1) under its new manual deduction. -/
theorem resettledLines_settled {t : Ticket} {k : Nat} {l : Line} {y : LineSettlement} (line : t.lines[k]? = some l)
    (settled : l.settlement = some y) {n : Nat} (numbered : 1 ≤ n) (manual : Option Nat) :
    let m := if k + 1 = n then manual else l.manual
    let ded := min l.net (m.getD ((l.net * y.perMille + 500) / 1000))
    (resettledLines t (n - 1) manual)[k]? = some { l with
      manual := m, settlement := some { y with deduction := ded, payable := l.net - ded, value := (l.net - ded) * y.price } } := by
  have named : k = n - 1 ↔ k + 1 = n := by omega
  rw [resettledLines_getElem? line, resettleLine_settled settled]
  simp only [named]

theorem resettledLines_length (t : Ticket) (j : Nat) (manual : Option Nat) :
    (resettledLines t j manual).length = t.lines.length := by
  simp [resettledLines, Ticket.setManual]

/-- 04 R80: of a settled ticket, re-settlement changes the lines, the exact value and the amount alone. -/
theorem resettleTicket_eq {t : Ticket} {x : Settlement} (settled : t.settlement = some x) (j : Nat) (manual : Option Nat) :
    resettleTicket (t.setManual j manual) = { t with
      lines := resettledLines t j manual
      settlement := some { x with figures := { x.figures with
        exact := exactValue (resettledLines t j manual), amount := amountOf (exactValue (resettledLines t j manual)) } } } := by
  simp [resettleTicket, Ticket.setManual, resettledLines, settled]

/-- 04 R75: the settlement outcome of a settled ticket, its slip printed or not. -/
theorem settlementFields_of_settled (s : State) (p : Port) {t : Ticket} {x : Settlement} (settled : t.settlement = some x) :
    settlementFields t (if s.room p then some ((s.printer p).queue.length + 1) else none) = s.outcomeFields p t x.figures := by
  rw [settlementFields, State.outcomeFields, settled, Wire.slip_offered]
  rfl

theorem lineFields_of_settled {l : Line} {f : LineSettlement} (settled : l.settlement = some f) :
    lineFields l = Wire.optNum 3 l.manual ++ Wire.num 3 f.deduction ++ Wire.num 3 f.payable ++ Wire.num 5 f.value := by
  rw [lineFields, settled]
  rfl

/-- 04 R78: what the checks leave to hold of the ticket and the line. -/
theorem setDeductionChecks_passed {r : SetDeductionReq} {s : State} {i : Nat} {t : Ticket}
    (found : s.findTicket r.ticket = some (i, t)) (passed : firstFailure (setDeductionChecks s r) = none) :
    t.pending = none ∧ (t.state = .settled ∨ t.state = .held) ∧ r.line ≤ t.lines.length := by
  rw [firstFailure_none] at passed
  obtain ⟨unmarked, due, most⟩ : t.pending = none ∧ (t.state ≠ .settled → t.state = .held) ∧ r.line ≤ t.lines.length := by
    simpa [setDeductionChecks, State.ticket, found] using passed
  exact ⟨unmarked, or_iff_not_imp_left.mpr due, most⟩

/-- 04 R79 to R81: SET-DEDUCTION past its checks, the ticket re-settled as `t'` and the named line as `l`. -/
theorem setDeductionReply_done {p : Port} {r : SetDeductionReq} {s : State} {i : Nat} {t t' : Ticket} {x : Settlement}
    {l : Line} {f : LineSettlement} (found : s.findTicket r.ticket = some (i, t))
    (passed : firstFailure (setDeductionChecks s r) = none)
    (resettled : resettleTicket (t.setManual (r.line - 1) r.manual) = t') (line : t'.lines[r.line - 1]? = some l)
    (computed : l.settlement = some f) (settled : t'.settlement = some x) :
    setDeductionReply p r s = .done (Wire.num 3 r.ticket ++ Wire.num 1 r.line ++ Wire.optNum 3 l.manual ++ Wire.num 3 f.deduction
        ++ Wire.num 3 f.payable ++ Wire.num 5 f.value ++ s.outcomeFields p t' x.figures)
      ((s.putTicket i t').offered p .settleSlip ((s.putTicket i t').snapTicket t')) := by
  obtain ⟨unmarked, due, -⟩ := setDeductionChecks_passed found passed
  have closed : ¬ (t.state ≠ .settled ∧ t.state ≠ .held) := fun other => due.elim other.1 other.2
  simp only [setDeductionReply, found, unmarked, Option.isSome_none, Bool.false_eq_true, if_false, closed, resettled, line,
    State.offerSettleSlip, State.offer_newJob s (s.putTicket i t') p _ _ rfl, settlementFields_of_settled s p settled,
    lineFields_of_settled computed, List.append_assoc]

/-- Settles O27: the named line stands, so the reply re-settles the ticket; the console's receiver is no part of the offer. -/
theorem setDeductionResettlesTheTicket : Obligations.SetDeductionResettlesTheTicket := by
  intro p fields r i t x s decoded ready found passed settled computed
  have least := setDeduction_line_pos decoded
  obtain ⟨-, -, most⟩ := setDeductionChecks_passed found passed
  have inside : r.line - 1 < t.lines.length := by omega
  obtain ⟨y, bound⟩ := Option.isSome_iff_exists.mp (computed _ (List.getElem_mem inside))
  have line := resettledLines_settled (List.getElem?_eq_getElem inside) bound least r.manual
  have reply := setDeductionReply_done (p := p) (s := s.idleReceiver p) found passed (resettleTicket_eq settled _ _) line rfl rfl
  exact ⟨_, _, _, resettledLines_length t _ _, fun _ _ _ here settled => resettledLines_settled here settled least r.manual,
    rfl, line, rfl, takeRequest_done ready rfl decoded
      (reply.trans (congrArg _ (State.idleReceiver_offered (s.putTicket i _) p p _ _)))⟩

end Sys2Proof.Machine
end

section
/-! PROOFS. What a payment adds (05 R94, R95, 03 R53): the seller cash map after a charge to one seller, and the day totals of
the grades that the paid lines name. -/

namespace Sys2Proof.Machine

/-! ### The seller cash map (05 R94, R106) -/

theorem State.sellerCash_isNone {s : State} {seller : Nat} :
    (s.sellerCash seller).isNone = true ↔ seller ∉ s.sellers.map (·.seller) := by
  simp [State.sellerCash]

/-- 05 R94: a charge makes an entry for a seller that has none, and keeps the sellers of the others in their order. -/
theorem chargeSeller_sellers (c seller : Nat) (xs : List SellerEntry) : (chargeSeller c seller xs).map (·.seller) =
    if seller ∈ xs.map (·.seller) then xs.map (·.seller) else xs.map (·.seller) ++ [seller] := by
  induction xs with
  | nil => rfl
  | cons e rest ih =>
    by_cases own : e.seller = seller
    · simp [chargeSeller, own]
    · simp only [chargeSeller, own, if_false, List.map_cons, ih, List.mem_cons, Ne.symm own, false_or]
      split <;> rfl

theorem chargeSeller_nodup (c seller : Nat) {xs : List SellerEntry} (distinct : (xs.map (·.seller)).Nodup) :
    ((chargeSeller c seller xs).map (·.seller)).Nodup := by
  rw [chargeSeller_sellers]
  split
  · exact distinct
  · rename_i new
    exact List.nodup_append_comm.mp (List.nodup_cons.mpr ⟨new, distinct⟩)

theorem chargeSeller_length (c seller : Nat) (xs : List SellerEntry) :
    (chargeSeller c seller xs).length = xs.length + if seller ∈ xs.map (·.seller) then 0 else 1 := by
  rw [← List.length_map (·.seller), chargeSeller_sellers]
  split <;> simp

/-- 05 R94: the cash today of every seller after a charge to one. -/
theorem chargeSeller_cash (c seller other : Nat) (xs : List SellerEntry) :
    ((chargeSeller c seller xs).find? (·.seller == other)).map (·.cashToday) =
      if other = seller then some (satAdd (((xs.find? (·.seller == seller)).map (·.cashToday)).getD 0) c)
      else (xs.find? (·.seller == other)).map (·.cashToday) := by
  induction xs with
  | nil => by_cases same : other = seller <;> simp [chargeSeller, same, Ne.symm]
  | cons e rest ih =>
    by_cases own : e.seller = seller
    · by_cases same : other = seller
      · simp [chargeSeller, own, same]
      · simp [chargeSeller, own, same, Ne.symm same]
    · by_cases here : e.seller = other
      · simp [chargeSeller, here, show other ≠ seller from here ▸ own]
      · simpa [chargeSeller, own, here] using ih

/-! ### The day totals of the grades (05 R95, 03 R53) -/

/-- 05 R95, 03 R53: each entry is charged with the lines that name its index, in line order. -/
theorem chargeGrades_getElem? (grades : List Grade) (lines : List Line) (i : Nat) : (chargeGrades grades lines)[i]? =
    (grades[i]?).map fun g => (lines.filter fun l => l.grade == i).foldl (fun g l => chargeGrade l g) g := by
  induction lines generalizing grades with
  | nil => simp [chargeGrades]
  | cons l rest ih =>
    have charged : chargeGrades grades (l :: rest) = chargeGrades (grades.modify l.grade (chargeGrade l)) rest := rfl
    rw [charged, ih, List.getElem?_modify]
    by_cases named : l.grade = i
    · simp [named, Function.comp_def]
    · simp [named]

/-- 05 R95: a grade charged with lines whose sums stay below the bound of its counters. -/
theorem foldl_chargeGrade {lines : List Line} {g : Grade} (count : g.dayLines + lines.length ≤ 999999999999)
    (kg : g.dayKg + payableSum lines ≤ 999999999999) (value : g.dayValue + exactValue lines ≤ 999999999999) :
    lines.foldl (fun g l => chargeGrade l g) g = { g with
      dayLines := g.dayLines + lines.length, dayKg := g.dayKg + payableSum lines, dayValue := g.dayValue + exactValue lines } := by
  induction lines generalizing g with
  | nil => rfl
  | cons l rest ih =>
    rw [List.length_cons] at count
    rw [payableSum, List.map_cons, List.sum_cons, ← payableSum] at kg
    rw [exactValue, List.map_cons, List.sum_cons, ← exactValue] at value
    have charged : chargeGrade l g = { g with
        dayLines := g.dayLines + 1, dayKg := g.dayKg + (l.settlement.map (·.payable)).getD 0
        dayValue := g.dayValue + (l.settlement.map (·.value)).getD 0 } := by
      rw [chargeGrade, satAdd_of_le (by omega), satAdd_of_le (by omega), satAdd_of_le (by omega)]
    rw [List.foldl_cons, charged, ih (by dsimp only; omega) (by dsimp only; omega) (by dsimp only; omega)]
    simp only [payableSum, exactValue, List.map_cons, List.sum_cons, List.length_cons, Nat.add_assoc, Nat.add_comm 1]

/-! ### The obligation -/

/-- Settles O35: the charged map by its sellers and their cash, the charged grade by the lines that name it. -/
theorem paymentChargesSellerAndGrades : Obligations.PaymentChargesSellerAndGrades := by
  refine ⟨fun c seller other s distinct => ⟨?own, fun different => ?others, ?distinct, ?length⟩,
    fun grades lines i g here count kg value => ?grades⟩
  case own => exact (chargeSeller_cash c seller seller s.sellers).trans (if_pos rfl)
  case others => exact (chargeSeller_cash c seller other s.sellers).trans (if_neg different)
  case distinct => exact chargeSeller_nodup c seller distinct
  case length =>
    dsimp only
    rw [chargeSeller_length]
    simp only [State.sellerCash_isNone, ite_not]
  case grades =>
    rw [chargeGrades_getElem?, here, Option.map_some, foldl_chargeGrade count kg value]
    rfl

end Sys2Proof.Machine
end

section
/-! PROOFS. The rounding of a cash payment (05 R89), the limits and the tills (05 R86, R100 to R103), and the refusals of the
payout requests and DAY-CLOSE (05 R87, R88, R91, R100 to R103, 08 R161). -/

namespace Sys2Proof.Machine

/-! ### The cash amount (05 R89) -/

/-- 05 R89: the multiple of the step at or below the amount, or the next one where the remainder is more than half a step. -/
theorem cashAmount_eq (amount step : Nat) : cashAmount amount step =
    step * (amount / step) + if step < 2 * (amount % step) then step else 0 := by
  have below : amount - amount % step = step * (amount / step) := by
    have := Nat.div_add_mod amount step
    omega
  unfold cashAmount
  dsimp only
  rw [below]
  split <;> rfl

theorem dvd_cashAmount (amount step : Nat) : step ∣ cashAmount amount step := by
  rw [cashAmount_eq]
  exact (Nat.dvd_mul_right step _).add (by split <;> simp)

/-- Settles O32: the cash amount is a multiple of the step by its two cases, and the bounds are those of the remainder. -/
theorem cashAmountIsTheNearestStep : Obligations.CashAmountIsTheNearestStep := by
  refine ⟨fun amount step pos => ?_, fun _ _ _ _ => ⟨rfl, rfl⟩⟩
  have parts := Nat.div_add_mod amount step
  have remainder := Nat.mod_lt amount pos
  have cash := cashAmount_eq amount step
  have difference : cashRounding amount step = (cashAmount amount step : Int) - amount := rfl
  refine ⟨dvd_cashAmount amount step, ?near, fun half => ?half, difference, ?least, ?most, ?unit, ?nothing⟩
  case unit => simp [cashAmount_eq, Nat.mod_one]
  case nothing => simp [cashAmount_eq]
  case near => rw [cash, Int.abs_eq_natAbs]; split <;> omega
  case half => rw [cash, if_neg (by omega)]; omega
  case least => rw [difference, cash]; split <;> omega
  case most => rw [difference, cash]; split <;> omega

/-! ### The limits and the tills -/

section Replies

variable {p : Port} {s : State}

theorem openTillReply_open {float : Nat} (isOpen : (s.till p).isOpen = true) :
    openTillReply p float s = .refuse .tillOpen := if_pos isOpen

theorem openTillReply_done {float : Nat} (isClosed : (s.till p).isOpen = false) : openTillReply p float s =
    .done (Wire.num 4 float ++ Wire.optStamp s.stamp) (s.setTill p (openedTill float s.stamp)) := by
  simp [openTillReply, isClosed]

theorem loadCashReply_closed {amount : Nat} (isClosed : (s.till p).isOpen = false) :
    loadCashReply p amount s = .refuse .tillClosed := by
  simp [loadCashReply, isClosed]

/-- 05 R99: expected cash in an answer, where it is carried as a natural number. -/
theorem Till.expected_toNat (t : Till) : t.expected.toNat = t.float + t.cashLoaded - t.cashPaid := by
  rw [Till.expected, ← Nat.cast_add, Int.toNat_sub]

/-- 05 R101: LOAD-CASH at an OPEN till. -/
theorem loadCashReply_done {amount : Nat} (isOpen : (s.till p).isOpen = true) : loadCashReply p amount s =
    .done (Wire.num 5 (satAdd (s.till p).cashLoaded amount)
        ++ Wire.num 5 ((s.till p).float + satAdd (s.till p).cashLoaded amount - (s.till p).cashPaid))
      (s.setTill p { s.till p with cashLoaded := satAdd (s.till p).cashLoaded amount }) := by
  simp [loadCashReply, isOpen, Till.expected_toNat]

theorem closeTillReply_refused {counted : Nat} {code : ResultCode}
    (failed : firstFailure ((!(s.till p).isOpen, .tillClosed) :: s.jobChecks p) = some code) :
    closeTillReply p counted s = .refuse code := by
  rw [firstFailure_cons, ← State.queueRefusal_eq] at failed
  unfold closeTillReply
  split
  · rw [if_pos ‹_›] at failed
    rw [Option.some.inj failed]
  · rw [if_neg ‹_›] at failed
    simp only [failed]

theorem State.room_iff : s.room p = true ↔ s.queueRefusal p = none := by
  rw [State.queueRefusal_none]
  simp [State.room]

/-- 07 R132: the position answered is that of the job just queued. -/
theorem State.enqueue_position (job : Job) : Wire.num 1 ((s.enqueue p job).queuePosition p) = s.nextPosition p := by
  simp [State.queuePosition, State.enqueue, State.nextPosition, Wire.num]

/-- 05 R102: CLOSE-TILL at an OPEN till whose report finds room. -/
theorem closeTillReply_done {counted : Nat} (isOpen : (s.till p).isOpen = true) (room : s.room p = true) :
    closeTillReply p counted s =
      .done (Wire.num 5 ((s.till p).float + (s.till p).cashLoaded - (s.till p).cashPaid) ++ Wire.num 5 counted
          ++ Wire.signed (counted - (s.till p).expected) ++ s.nextPosition p)
        ((s.setTill p (countedTill (s.till p) counted)).withJob p .tillReport
          (.till p (countedTill (s.till p) counted) (s.till p).expected) none) := by
  have queued := State.enqueue_position (s := s.setTill p (countedTill (s.till p) counted)) (p := p)
  simp only [closeTillReply, isOpen, State.room_iff.mp room, Bool.not_true, Bool.false_eq_true, if_false, queued,
    Till.expected_toNat, State.snapTill, State.till_setTill_self]
  rfl

theorem forceCloseTillReply_closed {k : Port} (isClosed : (s.till k).isOpen = false) :
    forceCloseTillReply p k s = .refuse .tillClosed := by
  simp [forceCloseTillReply, isClosed]

theorem State.offered_till (kind : JobKind) (snapshot : Snapshot) (k : Port) :
    (s.offered p kind snapshot).till k = s.till k := by
  unfold State.offered
  split <;> rfl

/-- 05 R103: FORCE-CLOSE-TILL at an OPEN till. -/
theorem forceCloseTillReply_done {k : Port} (isOpen : (s.till k).isOpen = true) : forceCloseTillReply p k s =
    .done (Wire.num 1 k.val ++ Wire.num 5 ((s.till k).float + (s.till k).cashLoaded - (s.till k).cashPaid) ++ s.slipBytes p)
      ((s.setTill k (forcedTill (s.till k))).offered p .tillReport
        (.till k (forcedTill (s.till k)) (s.till k).expected)) := by
  simp only [forceCloseTillReply, isOpen, Bool.not_true, Bool.false_eq_true, if_false,
    State.offer_newJob s (s.setTill k _) p _ _ rfl, Wire.slip_offered, State.offered_till, Till.expected_toNat, State.snapTill,
    State.till_setTill_self]
  rfl

theorem dayCloseReply_refused {u : Unit} {code : ResultCode} (failed : firstFailure (dayCloseChecks s p) = some code) :
    dayCloseReply p u s = .refuse code := by
  have opened : s.tills.toList.any (·.isOpen)
      = ((s.till 0).isOpen || (s.till 1).isOpen || (s.till 2).isOpen || (s.till 3).isOpen) := by
    simp [Four.toList, State.till, Four.get, Bool.or_assoc]
  rw [dayCloseChecks, firstFailure_cons, ← opened, ← State.queueRefusal_eq] at failed
  unfold dayCloseReply
  split
  · rw [if_pos ‹_›] at failed
    rw [Option.some.inj failed]
  · rw [if_neg ‹_›] at failed
    simp only [failed]

end Replies

theorem noFields_nil : Decode.noFields [] = some () := rfl

/-- Settles O36: each reply writes its own record, which the console's receiver is no part of. -/
theorem limitsAndTills : Obligations.LimitsAndTills := by
  refine ⟨fun p fields s => ⟨fun l decoded ready => ?limits, fun float decoded ready isClosed => ?opened,
      fun amount decoded ready isOpen => ?loaded⟩,
    fun p fields s => ⟨fun counted decoded ready isOpen room => ?counted, fun k decoded ready isOpen => ?forced⟩⟩
  case limits => exact takeRequest_done ready rfl decoded rfl
  case opened => exact takeRequest_done ready rfl decoded (openTillReply_done isClosed)
  case loaded => exact takeRequest_done ready rfl decoded (loadCashReply_done isOpen)
  case counted => exact takeRequest_done ready rfl decoded (closeTillReply_done isOpen room)
  case forced =>
    have reply := forceCloseTillReply_done (p := p) (s := s.idleReceiver p) isOpen
    exact takeRequest_done ready rfl decoded (reply.trans (congrArg _
      (State.idleReceiver_offered (s.setTill k (forcedTill (s.till k))) p p _ _)))

/-- Settles O33: each table of checks is its block's reply, and no check reads the console's receiver. -/
theorem payoutRequestsAreCheckedInOrder : Obligations.PayoutRequestsAreCheckedInOrder := by
  intro p fields s code
  refine ⟨fun r decoded ready failed => ?pay, fun float decoded ready isOpen => ?opened,
    fun amount decoded ready isClosed => ?loaded, fun counted decoded ready failed => ?counted,
    fun k decoded ready isClosed => ?forced, fun empty ready failed => ?day⟩
  case pay => exact takeRequest_refused ready rfl decoded (payReply_refused p _ r code failed)
  case opened => exact takeRequest_refused ready rfl decoded (openTillReply_open isOpen)
  case loaded => exact takeRequest_refused ready rfl decoded (loadCashReply_closed isClosed)
  case counted => exact takeRequest_refused ready rfl decoded (closeTillReply_refused failed)
  case forced => exact takeRequest_refused ready rfl decoded (forceCloseTillReply_closed isClosed)
  case day => exact takeRequest_refused ready rfl (empty ▸ noFields_nil) (dayCloseReply_refused failed)

end Sys2Proof.Machine
end

section
/-! PROOFS. PAY past its checks (05 R87 to R96): one event on the ticket, the till, the seller cash map, the totals and the
queue. -/

namespace Sys2Proof.Machine

/-- 05 R90: only the reason CASH pays in cash. -/
theorem methodUsed_eq (reason : Reason) : methodUsed reason = if reason == .cash then .cash else .voucher := by
  cases reason <;> rfl

theorem methodUsed_eq_cash {reason : Reason} : methodUsed reason = .cash ↔ reason = .cash := by
  cases reason <;> decide

/-- 05 R92 to R95: the records that a payment changes, before its receipt is queued. -/
def State.charged (s : State) (p : Port) (i : Nat) (t : Ticket) (seller amount : Nat) (m : Method) : State :=
  { s with
    tickets := s.tickets.set i (some (paidTicket t (paymentFigures p m amount s.limits.step s.stamp)))
    tills := s.tills.set p (chargeTill (s.till p) m amount s.limits.step)
    sellers := if m = Method.cash then chargeSeller (cashAmount amount s.limits.step) seller s.sellers else s.sellers
    day := chargeDay s.day m amount s.limits.step
    grand := chargeGrand s.grand (payableSum t.lines) amount
    grades := chargeGrades s.grades t.lines }

/-- 05 R96: the obligatory receipt is queued on the charged records. -/
theorem State.payTicket_eq (s : State) (p : Port) (i : Nat) (t : Ticket) (seller amount : Nat) (m : Method) :
    s.payTicket p i t seller amount m = (s.charged p i t seller amount m).enqueue p
      (newJob (if m = Method.cash then .payReceipt else .payVoucher) p
        ((s.charged p i t seller amount m).snapTicket (paidTicket t (paymentFigures p m amount s.limits.step s.stamp))) none) :=
  rfl

section Passed

variable {p : Port} {r : PayReq} {s : State} {i seller : Nat} {t : Ticket} {x : Settlement}
  (found : s.findTicket r.ticket = some (i, t)) (sold : t.seller = some seller) (settled : t.settlement = some x)
  (passed : firstFailure (payChecks s p r) = none)
include found sold settled passed

/-- 05 R87, R88, R91: what the checks leave to hold of the ticket and the window. -/
theorem payChecks_passed : (t.state = .settled ∨ t.state = .held) ∧ s.holdRefusal t = none ∧ s.windowRefusal p = none
    ∧ (paymentReason s r.method x.figures.amount seller = .cash →
        (cashAmount x.figures.amount s.limits.step : Int) ≤ (s.till p).expected) := by
  simp only [payChecks, State.ticket, found, firstFailure_append, Option.or_eq_none_iff, ← State.queueRefusal_eq] at passed
  obtain ⟨⟨checks, queue⟩, short⟩ := passed
  simp only [firstFailure_none] at checks short
  obtain ⟨due, timed, released, isOpen⟩ : (t.state ≠ .settled → t.state = .held)
      ∧ (t.state = .held → s.clock.valid = true)
      ∧ (t.state = .held → x.figures.release.isSome = true ∧ x.figures.release.any (dateBefore s.today) = false)
      ∧ (s.till p).isOpen = true := by
    simpa [sold, settled] using checks
  refine ⟨or_iff_not_imp_left.mpr due, ?unheld, ?window, by simpa [sold, settled] using short⟩
  case window => simp [State.windowRefusal, isOpen, queue]
  case unheld =>
    by_cases held : t.state = .held
    · obtain ⟨dated, past⟩ := released held
      obtain ⟨d, release⟩ := Option.isSome_iff_exists.mp dated
      rw [release] at past
      simpa [State.holdRefusal, held, timed held, settled, release] using past
    · exact if_pos held

/-- 05 R90 to R96: PAY past its checks pays by the method of the reason decided; the answer reads the charged records. -/
theorem payReply_done {amount : Nat} {reason : Reason} {m : Method} (owed : x.figures.amount = amount)
    (decided : paymentReason s r.method amount seller = reason) (method : methodUsed reason = m) :
    payReply p r s = .done
      (Wire.num 3 r.ticket ++ Wire.num 4 amount ++ Wire.method m ++ reasonCode reason
        ++ Wire.optNum 4 (if m = Method.cash then some (cashAmount amount s.limits.step) else none)
        ++ Wire.optSigned (if m = Method.cash then some (cashRounding amount s.limits.step) else none)
        ++ Wire.optNum 5 ((s.charged p i t seller amount m).sellerCash seller)
        ++ Wire.num 5 ((s.charged p i t seller amount m).till p).expected.toNat ++ s.nextPosition p)
      ((s.charged p i t seller amount m).enqueue p (newJob (if m = Method.cash then .payReceipt else .payVoucher) p
        ((s.charged p i t seller amount m).snapTicket (paidTicket t (paymentFigures p m amount s.limits.step s.stamp)))
        none)) := by
  subst owed decided method
  obtain ⟨due, unheld, window, covered⟩ := payChecks_passed found sold settled passed
  have unfinished : ¬ (t.state ≠ .settled ∧ t.state ≠ .held) := fun other => due.elim other.1 other.2
  have amount : (t.settlement.map (·.figures.amount)).getD 0 = x.figures.amount := by rw [settled]; rfl
  have enough : ¬ (methodUsed (paymentReason s r.method x.figures.amount seller) = .cash
      ∧ (s.till p).expected < cashAmount x.figures.amount s.limits.step) := fun ⟨cash, short⟩ =>
    absurd (covered (methodUsed_eq_cash.mp cash)) (not_le.mpr short)
  simp only [payReply, found, sold, unheld, window, unfinished, amount, decideReason_eq, enough, if_false, State.payFields,
    State.payTicket_eq, State.enqueue_position]
  rfl

end Passed

/-- Settles O34: the reply of `payReply_done`, by whether the payment is made in cash. -/
theorem payCarriesOutThePayment : Obligations.PayCarriesOutThePayment := by
  intro p fields r i t seller x s decoded ready found sold settled passed amount reason cash c k t' u
  have method : methodUsed reason = if cash then .cash else .voucher := methodUsed_eq reason
  have reply := payReply_done (p := p) (s := s.idleReceiver p) (reason := reason) found sold settled passed rfl rfl method
  refine takeRequest_done ready rfl decoded (reply.trans ?_)
  clear_value cash
  cases cash <;> rfl

end Sys2Proof.Machine
end

section
/-! PROOFS. The tills and the seller cash map: what leaves them alone, and the one change that each command makes of them (05 R93,
R94, R100 to R103, 08 R162, 11 R203). -/

namespace Sys2Proof.Machine

/-- 05 R99, R106: the tills and the seller cash map. -/
structure Ledger where
  tills : Four Till
  sellers : List SellerEntry

/-- The tills and the seller cash map of the part. -/
def State.ledger (s : State) : Ledger := ⟨s.tills, s.sellers⟩

/-! ### What leaves the ledger alone -/

theorem State.endFlight_ledger (s : State) (p : Port) (r : ResultCode) (fields : List Byte) :
    (s.endFlight p r fields).ledger = s.ledger := by
  rw [State.endFlight_eq]
  split <;> rfl

theorem State.clearTaskMark_ledger (s : State) (task : WeighTask) : (s.clearTaskMark task).ledger = s.ledger := by
  obtain ⟨tickets, h⟩ := s.clearTaskMark_frame task
  rw [h]
  rfl

theorem State.dropWeighing_ledger (s : State) (b : BridgeId) : (s.dropWeighing b).ledger = s.ledger := by
  unfold State.dropWeighing
  split
  · rfl
  · exact s.clearTaskMark_ledger _

theorem State.failWeighing_ledger (s : State) (b : BridgeId) (r : ResultCode) : (s.failWeighing b r).ledger = s.ledger := by
  unfold State.failWeighing
  split
  · rfl
  · rw [State.endFlight_ledger, State.dropWeighing_ledger]

theorem State.offer_ledger (s : State) (p : Port) (job : Job) : (s.offer p job).1.ledger = s.ledger := by
  rw [State.offer_eq]
  split <;> rfl

theorem State.closeTicket_ledger (s : State) (i : Nat) (t : Ticket) (p : Port) :
    (s.closeTicket i t p).1.ledger = s.ledger := State.offer_ledger _ p _

theorem State.deliverGross_ledger (s : State) (b : BridgeId) (w : Nat) (vehicle : Option Text) (seller : Option Nat) :
    (s.deliverGross b w vehicle seller).state.ledger = s.ledger := by
  unfold State.deliverGross
  split <;> rfl

theorem State.deliverStoreTare_ledger (s : State) (b : BridgeId) (w : Nat) (vehicle : Text) :
    (s.deliverStoreTare b w vehicle).state.ledger = s.ledger := by
  unfold State.deliverStoreTare
  split
  · rfl
  · split
    · rfl
    · split <;> rfl

/-- 01 R16: no captured weight is handed to the payout unit. -/
theorem State.deliver_ledger (s : State) (b : BridgeId) (w : Int) (x : Weighing) :
    (s.deliver b w x).state.ledger = s.ledger := by
  unfold State.deliver
  cases x.task with
  | gross vehicle seller =>
    dsimp only
    split
    · rfl
    · exact s.deliverGross_ledger b w.toNat vehicle seller
  | drop n grade manual =>
    dsimp only
    split
    · rfl
    · split <;> rfl
  | tare n grade manual =>
    dsimp only
    split
    · rfl
    · split
      · rfl
      · exact s.closeTicket_ledger _ _ x.console
  | storeTare vehicle =>
    dsimp only
    split
    · rfl
    · exact s.deliverStoreTare_ledger b w.toNat vehicle

theorem State.capture_ledger (s : State) (b : BridgeId) (x : Weighing) (raw : Int) :
    (s.capture b x raw).ledger = s.ledger :=
  (State.endFlight_ledger _ _ _ _).trans (s.deliver_ledger b _ x)

theorem State.setLink_ledger (s : State) (b : BridgeId) (l : LinkState) : (s.setLink b l).ledger = s.ledger := by
  unfold State.setLink
  dsimp only
  split
  · exact State.failWeighing_ledger _ b .stale
  · exact State.failWeighing_ledger _ b .scaleFault
  · rfl
  · rfl
  · rfl

theorem State.countedSample_ledger (s : State) (b : BridgeId) (raw : Int) : (s.countedSample b raw).ledger = s.ledger := by
  unfold State.countedSample
  dsimp only
  split
  · split
    · exact State.capture_ledger _ b _ raw
    · rfl
  · rfl

theorem State.divide_ledger (s : State) (b : BridgeId) (raw : Int) : (s.divide b raw).ledger = s.ledger := by
  unfold State.divide
  dsimp only
  split
  · exact State.countedSample_ledger _ b raw
  · rfl

theorem State.sample_ledger (s : State) (b : BridgeId) (raw : Int) (fault : Bool) :
    (s.sample b raw fault).ledger = s.ledger := by
  unfold State.sample
  dsimp only
  split
  · exact State.setLink_ledger _ b .fault
  · rw [State.divide_ledger, State.setLink_ledger]
    rfl

theorem State.endReceipt_ledger (s : State) (p : Port) (n : Nat) (o : JournalOutcome) :
    (s.endReceipt p n o).ledger = s.ledger := by
  obtain ⟨day, grand, h⟩ := s.endReceipt_frame p n o
  rw [h]
  rfl

theorem State.recordCompletion_ledger (s : State) (job : Job) (serial : Nat) :
    (s.recordCompletion job serial).ledger = s.ledger := by
  unfold State.recordCompletion
  split
  · rfl
  · split <;> rfl

theorem State.completeJob_ledger (s : State) (p : Port) (job : Job) : (s.completeJob p job).ledger = s.ledger := by
  unfold State.completeJob
  dsimp only
  split
  · rfl
  · rw [State.recordCompletion_ledger, State.endReceipt_ledger]
    rfl

theorem State.acknowledge_ledger (s : State) (p : Port) (job : Job) (lines : List Text) :
    (s.acknowledge p job lines).ledger = s.ledger := by
  unfold State.acknowledge
  dsimp only
  split
  · split <;> rfl
  · exact s.completeJob_ledger p job

theorem State.restartJob_ledger (s : State) (p : Port) (job : Job) : (s.restartJob p job).ledger = s.ledger := by
  unfold State.restartJob
  split <;> rfl

theorem State.readyOrRestart_ledger (s : State) (p : Port) : (s.readyOrRestart p).ledger = s.ledger := by
  unfold State.readyOrRestart
  split
  · split
    · exact s.restartJob_ledger p _
    · rfl
  · rfl

theorem State.restartLate_ledger (s : State) (p : Port) : (s.restartLate p).ledger = s.ledger := by
  unfold State.restartLate
  split
  · exact s.restartJob_ledger p _
  · rfl

theorem State.interrupt_ledger (s : State) (p : Port) : (s.interrupt p).ledger = s.ledger := by
  unfold State.interrupt
  split
  · rfl
  · exact s.endReceipt_ledger p _ _

theorem State.release_ledger (s : State) (pins : ReleasePins) : (s.release pins).ledger = s.ledger := by
  have interrupted : ((((s.interrupt 0).interrupt 1).interrupt 2).interrupt 3).ledger = s.ledger := by
    simp only [State.interrupt_ledger]
  exact interrupted

theorem State.assertBy_ledger (s : State) (cause : ResetCause) : (s.assertBy cause).ledger = s.ledger := by
  cases cause <;> rfl

/-! ### Changes of a till and of the map -/

/-- What one command makes of a till (05 R93, R100 to R103, 11 R203). -/
inductive Till.Change (k : Till) : Till → Prop where
  | kept : k.Change k
  | opened (float : Nat) (now : Option Stamp) : k.Change (openedTill float now)
  | loaded (amount : Nat) : k.Change { k with cashLoaded := satAdd k.cashLoaded amount }
  | closed (counted : Option Nat) (overShort : Option Int) : k.Change { k with isOpen := false, counted, overShort }
  | cash {amount step : Nat} : (cashAmount amount step : Int) ≤ k.expected → k.Change (chargeTill k .cash amount step)
  | voucher (amount step : Nat) : k.Change (chargeTill k .voucher amount step)
  | defaulted : k.Change closedTill

/-- What one command makes of the seller cash map (05 R90, R94, 08 R162, 11 R203). -/
inductive SellersChange (xs : List SellerEntry) : List SellerEntry → Prop where
  | kept : SellersChange xs xs
  | charged (c : Nat) {seller : Nat} : seller ∈ xs.map (·.seller) ∨ xs.length < 128 → SellersChange xs (chargeSeller c seller xs)
  | emptied : SellersChange xs []

/-- What one command makes of the ledger. -/
structure Ledger.Change (l m : Ledger) : Prop where
  tills : ∀ p, (l.tills.get p).Change (m.tills.get p)
  sellers : SellersChange l.sellers m.sellers

theorem Ledger.Change.of_eq {l m : Ledger} (h : m = l) : l.Change m := by
  subst h
  exact ⟨fun _ => .kept, .kept⟩

theorem tills_set_change (tills : Four Till) {p : Port} {k : Till} (h : (tills.get p).Change k) (q : Port) :
    (tills.get q).Change ((tills.set p k).get q) := by
  rw [Four.get_set]
  split
  · rwa [‹q = p›]
  · exact .kept

/-- One till changed, the map kept. -/
theorem Ledger.Change.setTill (l : Ledger) {p : Port} {k : Till} (h : (l.tills.get p).Change k) :
    l.Change { l with tills := l.tills.set p k } := ⟨tills_set_change l.tills h, .kept⟩

end Sys2Proof.Machine
end

section
/-! PROOFS. Every command changes the tills and the seller cash map in one of the ways of `Ledger.Change`. -/

namespace Sys2Proof.Machine

/-! ### Requests that leave the ledger alone -/

/-- The ledger after a block's reply in state `s`. -/
def Reply.ledger (s : State) : Reply → Ledger
  | .refuse _ => s.ledger
  | .done _ t => t.ledger
  | .flight _ t => t.ledger

theorem Reply.apply_ledger (r : Reply) (cls : Byte) (p : Port) (s : State) : (r.apply cls p s).ledger = r.ledger s := by
  cases r <;> rfl

section Replies

variable (p : Port) (s : State)

theorem abortReply_ledger (r : Unit) : (abortReply p r s).ledger s = s.ledger := by
  unfold abortReply
  split
  · rfl
  · exact (State.endFlight_ledger _ p _ _).trans (s.dropWeighing_ledger _)

theorem openTicketReply_ledger (r : OpenTicketReq) : (openTicketReply p r s).ledger s = s.ledger := by
  rw [openTicketReply_eq]
  split <;> rfl

theorem weighReply_ledger (drop : Bool) (r : WeighReq) : (weighReply drop p r s).ledger s = s.ledger := by
  rw [weighReply_eq]
  split
  · rfl
  · split <;> rfl

theorem storeTareReply_ledger (r : StoreTareReq) : (storeTareReply p r s).ledger s = s.ledger := by
  rw [storeTareReply_eq]
  split <;> rfl

theorem zeroReply_ledger (b : BridgeId) : (zeroReply p b s).ledger s = s.ledger := by
  rw [zeroReply_eq _ p s b rfl]
  split <;> rfl

theorem setBridgeReply_ledger (r : SetBridgeReq) : (setBridgeReply p r s).ledger s = s.ledger := by
  unfold setBridgeReply
  dsimp only
  split <;> rfl

theorem setPartyReply_ledger (r : SetPartyReq) : (setPartyReply p r s).ledger s = s.ledger := by
  rw [setPartyReply_eq]
  split
  · rfl
  · split <;> rfl

theorem voidTicketReply_ledger (n : Nat) : (voidTicketReply p n s).ledger s = s.ledger := by
  unfold voidTicketReply
  iterate 3 (split; · rfl)
  exact State.offer_ledger _ p _

theorem setDeductionReply_ledger (r : SetDeductionReq) : (setDeductionReply p r s).ledger s = s.ledger := by
  unfold setDeductionReply
  iterate 3 (split; · rfl)
  dsimp only
  split
  · rfl
  · exact State.offer_ledger _ p _

theorem applyTareReply_ledger (r : ApplyTareReq) : (applyTareReply p r s).ledger s = s.ledger := by
  unfold applyTareReply
  iterate 9 (split; · rfl)
  exact s.closeTicket_ledger _ _ p

theorem setGradeReply_ledger (r : SetGradeReq) : (setGradeReply p r s).ledger s = s.ledger := by
  unfold setGradeReply
  split
  · rfl
  · split <;> rfl

theorem removeGradeReply_ledger (code : Nat) : (removeGradeReply p code s).ledger s = s.ledger := by
  unfold removeGradeReply
  split
  · rfl
  · split <;> rfl

theorem deleteTareReply_ledger (v : Text) : (deleteTareReply p v s).ledger s = s.ledger := by
  unfold deleteTareReply
  split <;> rfl

theorem alignMinuteReply_ledger (r : Unit) : (alignMinuteReply p r s).ledger s = s.ledger := by
  unfold alignMinuteReply
  split <;> rfl

theorem copyReply_ledger (n : Nat) : (copyReply p n s).ledger s = s.ledger := by
  unfold copyReply
  split
  · rfl
  · split <;> rfl

theorem discardJobReply_ledger (r : Unit) : (discardJobReply p r s).ledger s = s.ledger := by
  unfold discardJobReply
  split
  · rfl
  · split
    · rfl
    · rfl
    · split
      · rfl
      · exact State.endReceipt_ledger _ p _ _

theorem queryTicketReply_ledger (r : QueryTicketReq) : (queryTicketReply p r s).ledger s = s.ledger := by
  unfold queryTicketReply
  split
  · rfl
  · split <;> rfl

theorem queryGradeReply_ledger (r : QueryGradeReq) : (queryGradeReply p r s).ledger s = s.ledger := by
  unfold queryGradeReply
  split
  · split <;> rfl
  · rfl

theorem queryTareReply_ledger (r : QueryTareReq) : (queryTareReply p r s).ledger s = s.ledger := by
  unfold queryTareReply
  split <;> split <;> rfl

theorem queryJournalReply_ledger (r : QueryJournalReq) : (queryJournalReply p r s).ledger s = s.ledger := by
  unfold queryJournalReply
  split <;> split <;> rfl

theorem queryTotalsReply_ledger (r : QueryTotalsReq) : (queryTotalsReply p r s).ledger s = s.ledger := by
  unfold queryTotalsReply
  split <;> rfl

/-! ### Requests of the payout unit, and the day close -/

theorem openTillReply_change (float : Nat) : s.ledger.Change ((openTillReply p float s).ledger s) := by
  unfold openTillReply
  split
  · exact .of_eq rfl
  · exact .setTill s.ledger (.opened float s.stamp)

theorem loadCashReply_change (amount : Nat) : s.ledger.Change ((loadCashReply p amount s).ledger s) := by
  unfold loadCashReply
  split
  · exact .of_eq rfl
  · exact .setTill s.ledger (.loaded amount)

theorem closeTillReply_change (counted : Nat) : s.ledger.Change ((closeTillReply p counted s).ledger s) := by
  unfold closeTillReply
  split
  · exact .of_eq rfl
  · split
    · exact .of_eq rfl
    · exact .setTill s.ledger (.closed (some counted) _)

theorem forceCloseTillReply_change (k : Port) : s.ledger.Change ((forceCloseTillReply p k s).ledger s) := by
  unfold forceCloseTillReply
  split
  · exact .of_eq rfl
  · show s.ledger.Change (State.offer (s.setTill k (forcedTill (s.till k))) p _).1.ledger
    rw [State.offer_ledger]
    exact .setTill s.ledger (.closed none none)

/-- 05 R90: the map of a payment in cash has the seller, or has room. -/
theorem paymentReason_cash {s : State} {requested : Method} {amount seller : Nat}
    (cash : paymentReason s requested amount seller = .cash) : seller ∈ s.sellers.map (·.seller) ∨ s.sellers.length < 128 := by
  unfold paymentReason at cash
  split_ifs at cash with _ _ _ full
  rw [← Option.isNone_iff_eq_none, State.sellerCash_isNone] at full
  exact or_iff_not_imp_left.mpr fun new => not_le.mp (not_and.mp full new)

theorem payTicket_change {i seller amount : Nat} {t : Ticket} (m : Method)
    (covered : m = .cash → (cashAmount amount s.limits.step : Int) ≤ (s.till p).expected)
    (mapped : m = .cash → seller ∈ s.sellers.map (·.seller) ∨ s.sellers.length < 128) :
    s.ledger.Change (s.payTicket p i t seller amount m).ledger := by
  cases m with
  | cash => exact ⟨tills_set_change s.tills (.cash (covered rfl)), .charged _ (mapped rfl)⟩
  | voucher => exact .setTill s.ledger (.voucher amount s.limits.step)

theorem payReply_change (r : PayReq) : s.ledger.Change ((payReply p r s).ledger s) := by
  unfold payReply
  iterate 5 (split; · exact .of_eq rfl)
  dsimp only
  rw [decideReason_eq]
  split
  · exact .of_eq rfl
  · rename_i enough
    exact payTicket_change p s _ (fun cash => not_lt.mp (not_and.mp enough cash))
      fun cash => paymentReason_cash (methodUsed_eq_cash.mp cash)

theorem dayCloseReply_change (r : Unit) : s.ledger.Change ((dayCloseReply p r s).ledger s) := by
  unfold dayCloseReply
  split
  · exact .of_eq rfl
  · split
    · exact .of_eq rfl
    · exact ⟨fun _ => .kept, .emptied⟩

end Replies

/-! ### Events -/

section Events

variable {s t : State}

theorem execSampleEvent_ledger {b : BridgeId} {raw : BitVec 24} {status : Byte}
    (h : execSampleEvent b raw status s = .next t) : t.ledger = s.ledger := by
  obtain rfl := Host.Outcome.next.inj h
  split
  · rfl
  · exact s.sample_ledger b _ _

theorem execBadSampleFrame_ledger {b : BridgeId} (h : execBadSampleFrame b s = .next t) : t.ledger = s.ledger := by
  obtain rfl := Host.Outcome.next.inj h
  split <;> rfl

theorem execStaleTimerExpiry_ledger {b : BridgeId} (h : execStaleTimerExpiry b s = .next t) : t.ledger = s.ledger := by
  obtain rfl := Host.Outcome.next.inj h
  split
  · exact State.setLink_ledger _ b .down
  · rfl

theorem execMotionDeadline_ledger {b : BridgeId} (h : execMotionDeadline b s = .next t) : t.ledger = s.ledger := by
  obtain rfl := Host.Outcome.next.inj h
  split
  · rfl
  · exact s.failWeighing_ledger b _

theorem execIndicatorReceivedByte_ledger {b : BridgeId} {x : Byte} (h : execIndicatorReceivedByte b x s = .next t) :
    t.ledger = s.ledger := by
  unfold execIndicatorReceivedByte at h
  split at h
  · obtain rfl := Host.Outcome.next.inj h
    rfl
  · split at h
    · obtain rfl := Host.Outcome.next.inj h
      split <;> rfl
    · split at h
      · split at h
        · exact execSampleEvent_ledger h
        · exact execBadSampleFrame_ledger h
      · obtain rfl := Host.Outcome.next.inj h
        rfl

theorem execJobStart_ledger {p : Port} (h : execJobStart p s = .next t) : t.ledger = s.ledger := by
  obtain rfl := Host.Outcome.next.inj h
  split
  · split <;> rfl
  · rfl

theorem execStatusReady_ledger {p : Port} (h : execStatusReady p s = .next t) : t.ledger = s.ledger := by
  obtain rfl := Host.Outcome.next.inj h
  split
  · rfl
  · cases (s.printer p).state with
    | unknown => rfl
    | offline => exact s.readyOrRestart_ledger p
    | faulted => exact s.readyOrRestart_ledger p
    | late => exact s.restartLate_ledger p
    | absent => rfl
    | ready => rfl
    | printing => rfl

theorem execStatusDone_ledger {p : Port} (h : execStatusDone p s = .next t) : t.ledger = s.ledger := by
  obtain rfl := Host.Outcome.next.inj h
  split
  · split
    · exact s.acknowledge_ledger p _ _
    · rfl
  · rfl

theorem execLineTimerExpiry_ledger {p : Port} (h : execLineTimerExpiry p s = .next t) : t.ledger = s.ledger := by
  obtain rfl := Host.Outcome.next.inj h
  split
  · rfl
  · split <;> rfl

theorem execFaultByte_ledger {p : Port} {r : FaultReason} (h : execFaultByte p r s = .next t) : t.ledger = s.ledger := by
  obtain rfl := Host.Outcome.next.inj h
  split
  · rfl
  · split <;> rfl

theorem execStatusBusy_ledger {p : Port} (h : execStatusBusy p s = .next t) : t.ledger = s.ledger := by
  obtain rfl := Host.Outcome.next.inj h
  split <;> rfl

theorem execMainReset_ledger {cause : ResetCause} (h : execMainReset cause s = .next t) : t.ledger = s.ledger := by
  obtain rfl := Host.Outcome.next.inj h
  split <;> exact State.assertBy_ledger _ cause

theorem execMainResetRelease_ledger {pins : ReleasePins} (h : execMainResetRelease pins s = .next t) :
    t.ledger = s.ledger := by
  obtain rfl := Host.Outcome.next.inj h
  split
  · exact s.release_ledger pins
  · rfl

/-- 11 R203: a backup power-on reset closes every till and empties the map. -/
theorem execBackupPowerOnReset_change (h : execBackupPowerOnReset s = .next t) : s.ledger.Change t.ledger := by
  obtain rfl := Host.Outcome.next.inj h
  refine ⟨fun p => ?_, .emptied⟩
  fin_cases p <;> exact .defaulted

/-! ### Frames -/

theorem takeFrame_answer_ledger (p : Port) (s : State) (a : Answer) :
    (takeFrame p s fun u => u.answer p a).ledger = s.ledger :=
  takeFrame_keeps (P := fun u => u.ledger = s.ledger) rfl (fun _ => rfl) fun _ _ => rfl

theorem execInterByteTimeout_ledger {p : Port} (h : execInterByteTimeout p s = .next t) : t.ledger = s.ledger := by
  obtain rfl := Host.Outcome.next.inj h
  split <;> rfl

theorem execBreakCondition_ledger {p : Port} (h : execBreakCondition p s = .next t) : t.ledger = s.ledger := by
  obtain rfl := Host.Outcome.next.inj h
  split <;> rfl

theorem execAnswerTransmitted_ledger {p : Port} (h : execAnswerTransmitted p s = .next t) : t.ledger = s.ledger := by
  obtain rfl := Host.Outcome.next.inj h
  split <;> rfl

section Request

variable {α : Type} {cls : Byte} {permitted : Role → Bool} {decode : List Byte → Option α}
  {act : Port → α → State → Reply} {p : Port} {fields : List Byte}

/-- Taking and answering a frame leaves the ledger alone: the block's reply alone can change it. -/
theorem takeRequest_change (taken : takeRequest cls permitted decode act p fields s = .next t)
    (reply : ∀ r (u : State), u.ledger.Change ((act p r u).ledger u)) : s.ledger.Change t.ledger :=
  takeRequest_keeps (P := fun u => s.ledger.Change u.ledger) taken (.of_eq rfl) (.of_eq rfl) (fun _ _ => .of_eq rfl)
    fun r _ _ _ _ _ => by
      rw [Reply.apply_ledger]
      exact reply r (s.idleReceiver p)

theorem takeRequest_ledger (taken : takeRequest cls permitted decode act p fields s = .next t)
    (reply : ∀ r u, (act p r u).ledger u = u.ledger) : s.ledger.Change t.ledger :=
  takeRequest_change taken fun r u => .of_eq (reply r u)

end Request

end Events

/-! ### Every command -/

theorem exec_change_unless_byte {c : Instr} {s t : State} (notByte : ∀ p b, c ≠ .consoleReceivedByte p b)
    (h : exec c s = .next t) : s.ledger.Change t.ledger := by
  cases c with
  | abort p f => exact takeRequest_ledger h fun r u => abortReply_ledger p u r
  | queryStatus p f => exact takeRequest_ledger h fun _ _ => rfl
  | openTicket p f => exact takeRequest_ledger h fun r u => openTicketReply_ledger p u r
  | weighDrop p f => exact takeRequest_ledger h fun r u => weighReply_ledger p u true r
  | weighTare p f => exact takeRequest_ledger h fun r u => weighReply_ledger p u false r
  | storeTare p f => exact takeRequest_ledger h fun r u => storeTareReply_ledger p u r
  | applyStoredTare p f => exact takeRequest_ledger h fun r u => applyTareReply_ledger p u r
  | zero p f => exact takeRequest_ledger h fun r u => zeroReply_ledger p u r
  | setDeduction p f => exact takeRequest_ledger h fun r u => setDeductionReply_ledger p u r
  | setParty p f => exact takeRequest_ledger h fun r u => setPartyReply_ledger p u r
  | openTill p f => exact takeRequest_change h fun r u => openTillReply_change p u r
  | loadCash p f => exact takeRequest_change h fun r u => loadCashReply_change p u r
  | closeTill p f => exact takeRequest_change h fun r u => closeTillReply_change p u r
  | pay p f => exact takeRequest_change h fun r u => payReply_change p u r
  | forceCloseTill p f => exact takeRequest_change h fun r u => forceCloseTillReply_change p u r
  | setPayoutLimits p f => exact takeRequest_ledger h fun _ _ => rfl
  | setGrade p f => exact takeRequest_ledger h fun r u => setGradeReply_ledger p u r
  | removeGrade p f => exact takeRequest_ledger h fun r u => removeGradeReply_ledger p u r
  | deleteTare p f => exact takeRequest_ledger h fun r u => deleteTareReply_ledger p u r
  | setTareValidity p f => exact takeRequest_ledger h fun _ _ => rfl
  | setBridge p f => exact takeRequest_ledger h fun r u => setBridgeReply_ledger p u r
  | setHeaderLine p f => exact takeRequest_ledger h fun _ _ => rfl
  | setHeaderCell p f => exact takeRequest_ledger h fun _ _ => rfl
  | setPrinter p f => exact takeRequest_ledger h fun _ _ => rfl
  | setClock p f => exact takeRequest_ledger h fun _ _ => rfl
  | alignMinute p f => exact takeRequest_ledger h fun r u => alignMinuteReply_ledger p u r
  | voidTicket p f => exact takeRequest_ledger h fun r u => voidTicketReply_ledger p u r
  | dayClose p f => exact takeRequest_change h fun r u => dayCloseReply_change p u r
  | copy p f => exact takeRequest_ledger h fun r u => copyReply_ledger p u r
  | discardJob p f => exact takeRequest_ledger h fun r u => discardJobReply_ledger p u r
  | queryTicket p f => exact takeRequest_ledger h fun r u => queryTicketReply_ledger p u r
  | listTickets p f => exact takeRequest_ledger h fun _ _ => rfl
  | queryBridge p f => exact takeRequest_ledger h fun _ _ => rfl
  | queryGrade p f => exact takeRequest_ledger h fun r u => queryGradeReply_ledger p u r
  | queryTare p f => exact takeRequest_ledger h fun r u => queryTareReply_ledger p u r
  | queryTill p f => exact takeRequest_ledger h fun _ _ => rfl
  | queryPrinter p f => exact takeRequest_ledger h fun _ _ => rfl
  | queryJournal p f => exact takeRequest_ledger h fun r u => queryJournalReply_ledger p u r
  | queryTotals p f => exact takeRequest_ledger h fun r u => queryTotalsReply_ledger p u r
  | badFrame p cls => exact .of_eq (Host.Outcome.next.inj h ▸ takeFrame_answer_ledger p s _)
  | badClass p cls => exact .of_eq (Host.Outcome.next.inj h ▸ takeFrame_answer_ledger p s _)
  | interByteTimeout p => exact .of_eq (execInterByteTimeout_ledger h)
  | breakCondition p => exact .of_eq (execBreakCondition_ledger h)
  | answerTransmitted p => exact .of_eq (execAnswerTransmitted_ledger h)
  | sampleEvent b raw status => exact .of_eq (execSampleEvent_ledger h)
  | badSampleFrame b => exact .of_eq (execBadSampleFrame_ledger h)
  | sampleGapTimeout b => exact .of_eq (execBadSampleFrame_ledger h)
  | staleTimerExpiry b => exact .of_eq (execStaleTimerExpiry_ledger h)
  | beamEvent b e high =>
    obtain rfl := Host.Outcome.next.inj h
    exact .of_eq (by split <;> rfl)
  | motionDeadline b => exact .of_eq (execMotionDeadline_ledger h)
  | statusReady p => exact .of_eq (execStatusReady_ledger h)
  | statusDone p => exact .of_eq (execStatusDone_ledger h)
  | statusBusy p => exact .of_eq (execStatusBusy_ledger h)
  | faultByte p r => exact .of_eq (execFaultByte_ledger h)
  | lineTimerExpiry p => exact .of_eq (execLineTimerExpiry_ledger h)
  | jobStart p => exact .of_eq (execJobStart_ledger h)
  | secondBoundary => exact .of_eq (Host.Outcome.next.inj h ▸ rfl)
  | mainReset cause => exact .of_eq (execMainReset_ledger h)
  | mainResetRelease pins => exact .of_eq (execMainResetRelease_ledger h)
  | backupPowerOnReset => exact execBackupPowerOnReset_change h
  | consoleReceivedByte p b => exact absurd rfl (notByte p b)
  | indicatorReceivedByte b x => exact .of_eq (execIndicatorReceivedByte_ledger h)

/-- 10 R183, R187: a complete frame is a command of its port. -/
theorem frameMeaning_cases {p : Port} {body : List Byte} {good : Bool} {s t : State}
    (h : frameMeaning p body good s = .next t) :
    (∃ c, t = s.setConsole p c) ∨ ∃ c : Instr, c.isFrame = true ∧ exec c s = .next t := by
  unfold frameMeaning at h
  split at h
  · obtain rfl := Host.Outcome.next.inj h
    exact .inl ⟨_, rfl⟩
  · rename_i cls fields
    split at h
    · obtain ⟨c, frame, meaning⟩ := requestMeaning_command p cls fields s
      exact .inr ⟨c, frame, meaning ▸ h⟩
    · exact .inr ⟨.badFrame p cls, rfl, h⟩

/-- 10 R182, R183: a received byte moves its port's receiver alone, or completes a frame, which is a command of the port. -/
theorem execConsoleReceivedByte_cases {p : Port} {b : Byte} {s t : State} (h : execConsoleReceivedByte p b s = .next t) :
    (∃ c, t = s.setConsole p c) ∨ ∃ c : Instr, c.isFrame = true ∧ exec c s = .next t := by
  have still : ∃ c, s = s.setConsole p c := ⟨s.console p, (s.setConsole_console p).symm⟩
  unfold execConsoleReceivedByte at h
  split at h
  · split at h
    · obtain rfl := Host.Outcome.next.inj h
      split
      · exact .inl ⟨_, rfl⟩
      · exact .inl still
    · obtain rfl := Host.Outcome.next.inj h
      split
      · exact .inl ⟨_, rfl⟩
      · exact .inl ⟨_, rfl⟩
    · obtain rfl := Host.Outcome.next.inj h
      exact .inl ⟨_, rfl⟩
    · exact frameMeaning_cases h
  · obtain rfl := Host.Outcome.next.inj h
    exact .inl still

theorem exec_change {c : Instr} {s t : State} (h : exec c s = .next t) : s.ledger.Change t.ledger := by
  by_cases byte : ∃ p b, c = .consoleReceivedByte p b
  · obtain ⟨p, b, rfl⟩ := byte
    rcases execConsoleReceivedByte_cases h with ⟨x, rfl⟩ | ⟨d, frame, runs⟩
    · exact .of_eq rfl
    · exact exec_change_unless_byte (fun q x is => by rw [is] at frame; contradiction) runs
  · exact exec_change_unless_byte (fun p b is => byte ⟨p, b, is⟩) h

theorem step_change {s t : State} (h : step s = .next t) : s.ledger.Change t.ledger := by
  unfold step at h
  split at h
  · exact .of_eq (Host.Outcome.next.inj h ▸ rfl)
  · have changed := exec_change h
    exact changed

end Sys2Proof.Machine
end

section
/-! PROOFS. Every step keeps the tills and the seller cash map sound, and the till law until a counter saturates (05 R99,
R106). -/

namespace Sys2Proof.Machine

/-- 05 R99: a counter below its bound has counted everything. -/
theorem satAdd_of_lt {a n : Nat} (h : satAdd a n < 999999999999) : satAdd a n = a + n := by
  simp only [satAdd, Config.counterMax] at h ⊢
  omega

/-- 05 R99: a balance inside its bounds has counted everything. -/
theorem satAddInt_of_lt {a n : Int} (h : |satAddInt a n| < 999999999999) : satAddInt a n = a + n := by
  obtain ⟨low, high⟩ := abs_lt.mp h
  simp only [satAddInt, Config.counterMax] at low high ⊢
  omega

/-- 05 R91, R99: a payment in cash takes at most its cash amount out of the till. -/
theorem Till.Change.sound {k m : Till} (h : k.Change m) (sound : k.Sound) : m.Sound := by
  obtain ⟨most, least⟩ := sound
  cases h with
  | kept => exact ⟨most, least⟩
  | opened float now => exact ⟨Nat.zero_le _, fun _ => by simp [Till.expected, openedTill, closedTill]⟩
  | loaded amount =>
    have grown := satAdd_mono k.cashLoaded amount most
    refine ⟨satAdd_le _ _, fun isOpen => ?_⟩
    have := least isOpen
    simp only [Till.expected] at this ⊢
    omega
  | closed counted overShort => exact ⟨most, fun isOpen => absurd isOpen (by simp)⟩
  | @cash amount step covered =>
    refine ⟨most, fun _ => ?_⟩
    have paid : satAdd k.cashPaid (cashAmount amount step) ≤ k.cashPaid + cashAmount amount step := Nat.min_le_left _ _
    simp only [Till.expected, chargeTill] at covered ⊢
    omega
  | voucher amount step => exact ⟨most, least⟩
  | defaulted => exact ⟨Nat.zero_le _, fun _ => by simp [Till.expected, closedTill]⟩

/-- 05 R99: what a payment adds to both sides of the till law is the same, until a counter saturates. -/
theorem Till.Change.balanced {k m : Till} (h : k.Change m) (law : k.balanced) (below : m.unsaturated) : m.balanced := by
  obtain ⟨paid, voucher, sum, rounding⟩ := below
  unfold Till.balanced at law ⊢
  cases h with
  | kept => exact law
  | opened float now => rfl
  | loaded amount => exact law
  | closed counted overShort => exact law
  | cash covered =>
    simp only [chargeTill] at paid sum rounding ⊢
    rw [satAdd_of_lt paid, satAdd_of_lt sum, satAddInt_of_lt rounding, cashRounding]
    omega
  | voucher amount step =>
    simp only [chargeTill] at voucher sum ⊢
    rw [satAdd_of_lt voucher, satAdd_of_lt sum]
    omega
  | defaulted => rfl

theorem SellersChange.sound {xs ys : List SellerEntry} (h : SellersChange xs ys) (most : xs.length ≤ 128)
    (distinct : (xs.map (·.seller)).Nodup) : ys.length ≤ 128 ∧ (ys.map (·.seller)).Nodup := by
  cases h with
  | kept => exact ⟨most, distinct⟩
  | charged c room =>
    refine ⟨?_, chargeSeller_nodup c _ distinct⟩
    rw [chargeSeller_length]
    split
    · exact most
    · exact room.resolve_left ‹_›
  | emptied => exact ⟨Nat.zero_le _, List.nodup_nil⟩

/-- Settles O57: each law through what the step makes of each till and of the map. -/
theorem stepsKeepPayoutSound : Obligations.StepsKeepPayoutSound := by
  intro s t h
  obtain ⟨tills, sellers⟩ := step_change h
  exact ⟨fun ⟨sound, most, distinct⟩ => ⟨fun p => (tills p).sound (sound p), sellers.sound most distinct⟩,
    fun p => (tills p).balanced⟩

end Sys2Proof.Machine
end

section
/-! PROOFS. The line forms and the value formats of a receipt (06 R116, R117): what a text must be for its line to be printed
within the width, and how long the numbers, dates and times are. -/

namespace Sys2Proof.Machine

open Render

/-! ### Legible texts -/

/-- Characters from 20h to 7Eh. -/
abbrev Inked (t : Text) : Prop := ∀ c ∈ t, 0x20 ≤ c.toNat ∧ c.toNat ≤ 0x7E

/-- Some character of the text is not a space. -/
abbrev Shows (t : Text) : Prop := ∃ c ∈ t, c ≠ 0x20#8

/-- A text of at most `k` printable characters, not all of them spaces. -/
abbrev Legible (k : Nat) (t : Text) : Prop := Inked t ∧ Shows t ∧ t.length ≤ k

theorem Inked.append {a b : Text} (ha : Inked a) (hb : Inked b) : Inked (a ++ b) :=
  fun c hc => (List.mem_append.mp hc).elim (ha c) (hb c)

theorem Inked.take {t : Text} (h : Inked t) (w : Nat) : Inked (t.take w) := fun c hc => h c (List.mem_of_mem_take hc)

theorem inked_spaces (n : Nat) : Inked (spaces n) := fun c hc => by rw [List.eq_of_mem_replicate hc]; decide

theorem Shows.left {a : Text} (h : Shows a) (b : Text) : Shows (a ++ b) := by
  obtain ⟨c, hc, mark⟩ := h
  exact ⟨c, List.mem_append_left b hc, mark⟩

theorem Shows.right {b : Text} (h : Shows b) (a : Text) : Shows (a ++ b) := by
  obtain ⟨c, hc, mark⟩ := h
  exact ⟨c, List.mem_append_right a hc, mark⟩

theorem Legible.mono {k m : Nat} {t : Text} (h : Legible k t) (le : k ≤ m) : Legible m t := ⟨h.1, h.2.1, h.2.2.trans le⟩

theorem Legible.append {k m : Nat} {a b : Text} (ha : Legible k a) (hb : Inked b) (length : b.length ≤ m) :
    Legible (k + m) (a ++ b) :=
  ⟨ha.1.append hb, ha.2.1.left b, by rw [List.length_append]; exact Nat.add_le_add ha.2.2 length⟩

theorem Legible.prepend {k m : Nat} {a b : Text} (hb : Legible m b) (ha : Inked a) (length : a.length ≤ k) :
    Legible (k + m) (a ++ b) :=
  ⟨ha.append hb.1, hb.2.1.right a, by rw [List.length_append]; exact Nat.add_le_add length hb.2.2⟩

/-- `Legible`, as a check that a literal text is put through. -/
def isLegible (k : Nat) (t : Text) : Bool := t.all Decode.printable && t.any (· != 0x20#8) && Nat.ble t.length k

theorem isLegible_iff {k : Nat} {t : Text} : isLegible k t = true ↔ Legible k t := by
  simp [isLegible, Decode.printable, and_assoc]

/-- The words of a caption. -/
theorem caption (x : String) {k : Nat} (h : isLegible k (txt x) = true) : Legible k (txt x) := isLegible_iff.mp h

/-! ### Printed lines (06 R116) -/

theorem printedLine_mono {v w : Nat} (le : v ≤ w) {l : Text} (h : printedLine v l) : printedLine w l :=
  ⟨h.1, h.2.1.trans le, h.2.2⟩

/-- A legible text is printed once its trailing spaces are removed. -/
theorem rstrip_printed {w : Nat} {t : Text} (h : Legible w t) : printedLine w (rstrip t) := by
  obtain ⟨inked, ⟨c, hc, mark⟩, length⟩ := h
  have strip : rstrip t = t.rdropWhile (· == 0x20#8) := rfl
  have pre := List.rdropWhile_prefix (· == 0x20#8) t
  have some : t.rdropWhile (· == 0x20#8) ≠ [] := fun none =>
    mark (by simpa using List.rdropWhile_eq_nil_iff.mp none c hc)
  rw [strip]
  refine ⟨List.length_pos_iff.mpr some, pre.length_le.trans length, fun d hd => inked d (pre.subset hd), ?_⟩
  rw [List.getLast?_eq_some_getLast some]
  have last := List.rdropWhile_last_not (· == 0x20#8) t some
  simpa using last

/-- A text that shows within the width is printed, cut to it. -/
theorem textLine_printed {w : Nat} {t : Text} (inked : Inked t) (shows : Shows (t.take w)) : printedLine w (textLine w t) :=
  rstrip_printed ⟨inked.take w, shows, List.length_take_le w t⟩

theorem ruleLine_printed {w : Nat} (pos : 1 ≤ w) : printedLine w (ruleLine w) := by
  have last : (ruleLine w).getLast? = some 0x2D#8 := by simp [ruleLine, List.getLast?_replicate, Nat.ne_of_gt pos]
  refine ⟨by simpa [ruleLine] using pos, by simp [ruleLine], fun c hc => ?_, by rw [last]; decide⟩
  rw [List.eq_of_mem_replicate hc]
  decide

/-- A number fills its column, whatever its length. -/
theorem numberCell_legible {w k : Nat} (pos : 1 ≤ w) {t : Text} (h : Legible k t) : Legible w (numberCell w t) := by
  obtain ⟨inked, shows, -⟩ := h
  unfold numberCell
  split
  · refine ⟨(inked_spaces _).append inked, shows.right _, ?_⟩
    simp only [padLeft, spaces, List.length_append, List.length_replicate]
    omega
  · refine ⟨fun c hc => ?_, ⟨0x23#8, List.mem_replicate.mpr ⟨by omega, rfl⟩, by decide⟩, List.length_replicate.le⟩
    rw [List.eq_of_mem_replicate hc]
    decide

/-! ### Rows -/

/-- At most `n` lines, each printed within `w` columns. -/
def Rows (w n : Nat) (ls : List Text) : Prop := ls.length ≤ n ∧ ∀ l ∈ ls, printedLine w l

theorem Rows.nil (w n : Nat) : Rows w n [] := ⟨Nat.zero_le n, by simp⟩

theorem Rows.single {w : Nat} {l : Text} (h : printedLine w l) : Rows w 1 [l] := ⟨le_refl 1, by simpa using h⟩

theorem Rows.append {w m n : Nat} {a b : List Text} (ha : Rows w m a) (hb : Rows w n b) : Rows w (m + n) (a ++ b) :=
  ⟨by rw [List.length_append]; exact Nat.add_le_add ha.1 hb.1, fun l hl => (List.mem_append.mp hl).elim (ha.2 l) (hb.2 l)⟩

theorem Rows.mono {w m n : Nat} {ls : List Text} (h : Rows w m ls) (le : m ≤ n) : Rows w n ls := ⟨h.1.trans le, h.2⟩

theorem Rows.flatMap {α : Type} {w k n : Nat} {rows : α → List Text} {xs : List α} (few : xs.length ≤ k)
    (each : ∀ x ∈ xs, Rows w n (rows x)) : Rows w (k * n) (xs.flatMap rows) := by
  have exactly : Rows w (xs.length * n) (xs.flatMap rows) := by
    induction xs with
    | nil => exact .nil w _
    | cons x rest ih =>
      rw [List.flatMap_cons, List.length_cons, Nat.succ_mul, Nat.add_comm]
      exact (each x List.mem_cons_self).append
        (ih (Nat.le_of_succ_le few) fun y hy => each y (List.mem_cons_of_mem x hy))
  exact exactly.mono (Nat.mul_le_mul_right n few)

/-- The entries of a numbered list carry the numbers 1 to its length. -/
theorem Rows.numbered {α : Type} {w k n : Nat} {rows : Nat → α → List Text} {xs : List α} (few : xs.length ≤ k)
    (each : ∀ i ≤ k, ∀ x ∈ xs, Rows w n (rows i x)) : Rows w (k * n) (numbered rows xs) := by
  refine Rows.flatMap (by simpa using few) fun x hx => ?_
  obtain ⟨-, less, here⟩ := List.mem_zipIdx hx
  exact each _ (by omega) _ (by rw [here]; exact List.getElem_mem _)

/-- 06 R116: a label and a value that fit the width make one row. -/
theorem labelValue_row {w m k : Nat} {label value : Text} (hl : Legible m label) (hv : Legible k value)
    (fits : m + 1 + k ≤ w) : Rows w 1 (labelValue w label value) := by
  obtain ⟨inked, shows, ml⟩ := hl
  obtain ⟨vinked, -, kl⟩ := hv
  unfold labelValue
  rw [if_pos (by omega)]
  refine Rows.single (rstrip_printed ⟨(inked.append (inked_spaces _)).append vinked, (shows.left _).left _, ?_⟩)
  simp only [spaces, List.length_append, List.length_replicate]
  omega

/-- 06 R116: a label and a value make two rows at most. -/
theorem labelValue_rows {w m k : Nat} {label value : Text} (hl : Legible m label) (hv : Legible k value)
    (le : m ≤ w) (pos : 1 ≤ w) : Rows w 2 (labelValue w label value) := by
  by_cases fits : label.length + 1 + value.length ≤ w
  · exact (labelValue_row ⟨hl.1, hl.2.1, le_refl _⟩ ⟨hv.1, hv.2.1, le_refl _⟩ fits).mono (by decide)
  · unfold labelValue
    rw [if_neg fits]
    have whole : label.take w = label := List.take_of_length_le (hl.2.2.trans le)
    exact (Rows.single (textLine_printed hl.1 (by rw [whole]; exact hl.2.1))).append
      (Rows.single (rstrip_printed (numberCell_legible pos hv)))

/-- A text line that begins with a legible text, whatever follows. -/
theorem textLine_row {w k : Nat} {a b : Text} (ha : Legible k a) (hb : Inked b) (le : k ≤ w) :
    Rows w 1 [textLine w (a ++ b)] := by
  refine Rows.single (textLine_printed (ha.1.append hb) ?_)
  rw [List.take_append, List.take_of_length_le (ha.2.2.trans le)]
  exact ha.2.1.left _

theorem textLine_caption {w k : Nat} {t : Text} (h : Legible k t) (le : k ≤ w) : Rows w 1 [textLine w t] := by
  have row := textLine_row h (b := []) (fun _ hc => nomatch hc) le
  rwa [List.append_nil] at row

/-! ### Value formats (06 R117) -/

theorem digit_range (n : Nat) :
    0x30 ≤ (BitVec.ofNat 8 (0x30 + n % 10)).toNat ∧ (BitVec.ofNat 8 (0x30 + n % 10)).toNat ≤ 0x39 := by
  rw [BitVec.toNat_ofNat]
  omega

theorem digits_range (fuel n : Nat) : ∀ c ∈ digits fuel n, 0x30 ≤ c.toNat ∧ c.toNat ≤ 0x39 := by
  induction fuel generalizing n with
  | zero => simp [digits]
  | succ fuel ih =>
    intro c hc
    rcases List.mem_append.mp hc with more | last
    · split at more
      · simp at more
      · exact ih _ c more
    · rw [List.mem_singleton.mp last]
      exact digit_range n

theorem digits_length {k : Nat} (fuel : Nat) {n : Nat} (h : n < 10 ^ (k + 1)) : (digits fuel n).length ≤ k + 1 := by
  induction fuel generalizing n k with
  | zero => simp [digits]
  | succ fuel ih =>
    rw [digits, List.length_append, List.length_singleton]
    split
    · simp
    · cases k with
      | zero => omega
      | succ k =>
        have := ih (n := n / 10) (k := k) (Nat.div_lt_of_lt_mul (by rwa [← Nat.pow_succ']))
        omega

/-- A text of printable characters other than the space is legible. -/
theorem legible_of_solid {k : Nat} {t : Text} (some : t ≠ []) (solid : ∀ c ∈ t, 0x21 ≤ c.toNat ∧ c.toNat ≤ 0x7E)
    (length : t.length ≤ k) : Legible k t := by
  refine ⟨fun c hc => ⟨by have := (solid c hc).1; omega, (solid c hc).2⟩, ?_, length⟩
  obtain ⟨c, rest, rfl⟩ := List.exists_cons_of_ne_nil some
  refine ⟨c, List.mem_cons_self, fun space => ?_⟩
  have := (solid c List.mem_cons_self).1
  rw [space] at this
  exact absurd this (by decide)

theorem decimal_inked (n : Nat) : Inked (decimal n) := fun c hc => by
  have := digits_range _ n c hc
  omega

theorem decimal_legible {k n : Nat} (h : n < 10 ^ (k + 1)) : Legible (k + 1) (decimal n) :=
  legible_of_solid (by simp [decimal, digits]) (fun c hc => by have := digits_range _ n c hc; omega) (digits_length _ h)

theorem inked_zeros (n : Nat) : Inked (List.replicate n 0x30#8) := fun c hc => by rw [List.eq_of_mem_replicate hc]; decide

theorem zeroPadded_inked (w n : Nat) : Inked (zeroPadded w n) := (inked_zeros _).append (decimal_inked n)

theorem zeroPadded_legible {k n : Nat} (h : n < 10 ^ (k + 1)) : Legible (k + 1) (zeroPadded (k + 1) n) := by
  obtain ⟨inked, shows, length⟩ := decimal_legible h
  refine ⟨zeroPadded_inked _ n, shows.right _, ?_⟩
  simp only [zeroPadded, List.length_append, List.length_replicate]
  omega

theorem weight_legible {n : Nat} (h : n ≤ 200000) : Legible 9 (weight n) :=
  (decimal_legible (k := 5) (by omega)).append (b := txt " kg") (by decide) (by decide : (txt " kg").length ≤ 3)

/-- An amount of at most `k + 1` digits before the point, with its sign and its two decimals. -/
theorem money_legible {k : Nat} {v : Int} (h : |v| < 10 ^ (k + 3)) : Legible (k + 5) (money v) := by
  have whole : v.natAbs / 100 < 10 ^ (k + 1) := by
    have bound : v.natAbs < 10 ^ (k + 3) := by rw [Int.abs_eq_natAbs] at h; exact_mod_cast h
    exact Nat.div_lt_of_lt_mul (by rwa [show 10 ^ (k + 3) = 100 * 10 ^ (k + 1) by ring] at bound)
  have cents := zeroPadded_legible (k := 1) (n := v.natAbs % 100) (by omega)
  have sign : Inked (if v < 0 then txt "-" else []) ∧ (if v < 0 then txt "-" else []).length ≤ 1 := by
    split <;> decide
  exact ((((decimal_legible whole).prepend sign.1 sign.2).append (b := txt ".") (by decide)
    (by decide : (txt ".").length ≤ 1)).append cents.1 cents.2.2).mono (by omega)

theorem lineValue_legible {k v : Nat} (h : v < 10 ^ (k + 5)) : Legible (k + 6) (lineValue v) := by
  have whole : v / 10000 < 10 ^ (k + 1) :=
    Nat.div_lt_of_lt_mul (by rwa [show 10 ^ (k + 5) = 10000 * 10 ^ (k + 1) by ring] at h)
  have part := zeroPadded_legible (k := 3) (n := v % 10000) (by omega)
  exact ((decimal_legible whole).append (b := txt ".") (by decide) (by decide : (txt ".").length ≤ 1)).append part.1 part.2.2

theorem price_legible {v : Nat} (h : v ≤ 999999) : Legible 10 (price v) :=
  (lineValue_legible (k := 1) (by omega)).append (b := txt "/kg") (by decide) (by decide : (txt "/kg").length ≤ 3)

theorem serialNumber_legible {n : Nat} (h : n ≤ 99999999) : Legible 8 (serialNumber n) :=
  zeroPadded_legible (k := 7) (by omega)

theorem date_inked (d : Date) : Inked (date d) :=
  ((((zeroPadded_inked 4 _).append (by decide : Inked (txt "-"))).append (zeroPadded_inked 2 _)).append
    (by decide : Inked (txt "-"))).append (zeroPadded_inked 2 _)

theorem timeOfDay_legible {t : TimeOfDay} (hour : t.hour ≤ 23) (minute : t.minute ≤ 59) : Legible 5 (timeOfDay t) := by
  have hours := zeroPadded_legible (k := 1) (n := t.hour) (by omega)
  have minutes := zeroPadded_legible (k := 1) (n := t.minute) (by omega)
  exact (hours.append (b := txt ":") (by decide) (by decide : (txt ":").length ≤ 1)).append minutes.1 minutes.2.2

theorem date_legible {d : Date} (h : dateValid d = true) : Legible 10 (date d) := by
  have range : d.year ≤ 2099 ∧ d.month ≤ 12 ∧ d.day ≤ 31 := by
    simp only [dateValid, decide_eq_true_eq] at h
    have length : monthLength d.year d.month ≤ 31 := by
      unfold monthLength
      split
      · split <;> omega
      · split <;> omega
    omega
  have year := zeroPadded_legible (k := 3) (n := d.year) (by omega)
  have month := zeroPadded_legible (k := 1) (n := d.month) (by omega)
  have day := zeroPadded_legible (k := 1) (n := d.day) (by omega)
  have dash : Inked (txt "-") ∧ (txt "-").length ≤ 1 := by decide
  exact (((year.append dash.1 dash.2).append month.1 month.2.2).append dash.1 dash.2).append day.1 day.2.2

theorem dateTime_legible {s : Option Stamp} (h : stampFits s) : Legible 16 (dateTime s) := by
  cases s with
  | none => decide
  | some s =>
    obtain ⟨valid, hour, minute, -⟩ := (stampValid_iff s).mp (h s rfl)
    have time := timeOfDay_legible hour minute
    exact ((date_legible valid).append (b := txt " ") (by decide) (by decide : (txt " ").length ≤ 1)).append time.1 time.2.2

theorem timeOf_legible {s : Option Stamp} (h : stampFits s) : Legible 5 (timeOf s) := by
  cases s with
  | none => decide
  | some s =>
    obtain ⟨-, hour, minute, -⟩ := (stampValid_iff s).mp (h s rfl)
    exact timeOfDay_legible hour minute

end Sys2Proof.Machine
end

section
/-! PROOFS. The receipt and its bodies (06 R115 to R123): every rendering of a snapshot in its ranges is 1 to 72 printed lines. -/

namespace Sys2Proof.Machine

open Render

/-- A label and a value that fit 32 columns together make one row at every width. -/
theorem field_row {w k : Nat} {label value : Text} (wide : 32 ≤ w) (hv : Legible k value) (hl : Legible (31 - k) label) :
    Rows w 1 (labelValue w label value) := by
  obtain ⟨c, hc, -⟩ := hl.2.1
  have length := hl.2.2
  have some := List.length_pos_of_mem hc
  exact labelValue_row hl hv (by omega)

/-! ### The ticket body (06 R119 to R121) -/

theorem ticketState_legible (x : TicketState) : Legible 7 (ticketState x) := by
  cases x <;> exact caption _ (by decide)

theorem kindTag_inked (k : WeighKind) : Inked (kindTag k) ∧ (kindTag k).length ≤ 6 := by cases k <;> decide

theorem vehicle_legible {v : Option Text} (h : ∀ x ∈ v, vehicleFits x) : Legible 10 (v.getD (txt "-")) := by
  cases v with
  | none => decide
  | some v =>
    obtain ⟨some, length, chars⟩ := h v rfl
    exact legible_of_solid (List.length_pos_iff.mp some) (fun c hc => by have := chars c hc; omega) length

theorem seller_legible {n : Option Nat} (h : ∀ x ∈ n, x ≤ 999999) : Legible 6 ((n.map decimal).getD (txt "-")) := by
  cases n with
  | none => decide
  | some n =>
    have range := h n rfl
    exact decimal_legible (k := 5) (by omega)

section Width

variable {w : Nat} (wide : 32 ≤ w)
include wide

theorem weighingRow_rows {i : Nat} (few : i ≤ 8) {e : WeighEntry} (weight : e.weight ≤ 200000) (time : stampFits e.time) :
    Rows w 1 (weighingRow w i e) := by
  have index := decimal_legible (k := 0) (n := i) (by omega)
  have tag := kindTag_inked e.kind
  have bridge := decimal_legible (k := 0) (n := e.bridge.val) (by omega)
  have hour := timeOf_legible time
  have label : Legible 18 (txt "W" ++ decimal i ++ txt " " ++ kindTag e.kind ++ txt " B" ++ decimal e.bridge.val ++ txt " "
      ++ timeOf e.time) :=
    ((((((((caption "W" (by decide) : Legible 1 _).append index.1 index.2.2).append (m := 1) (b := txt " ") (by decide) (by decide)).append
      tag.1 tag.2).append (m := 2) (b := txt " B") (by decide) (by decide)).append bridge.1 bridge.2.2).append
      (m := 1) (b := txt " ") (by decide) (by decide)).append hour.1 hour.2.2).mono (by decide)
  exact field_row wide (weight_legible weight) (label.mono (by decide))

/-- 06 R110: the computed fields of a settled line in their ranges. -/
def SnapLineSettlement.InRange (f : SnapLineSettlement) : Prop :=
  f.price ≤ 999999 ∧ f.deduction ≤ 200000 ∧ f.payable ≤ 200000 ∧ f.value ≤ 199999800000

theorem settledRows_rows {manual : Bool} {l : SnapLineSettlement} (h : l.InRange) : Rows w 3 (settledRows w manual l) := by
  obtain ⟨cost, deduction, payable, value⟩ := h
  have less : Rows w 1 (if 0 < l.deduction then
      labelValue w (if manual then txt "  LESS MANUAL" else txt "  LESS") (weight l.deduction) else []) := by
    split
    · exact field_row wide (weight_legible deduction) (by split <;> exact caption _ (by decide))
    · exact .nil w 1
  have paid := weight_legible payable
  have price := price_legible cost
  have label : Legible 26 (txt "  " ++ weight l.payable ++ txt " x " ++ Render.price l.price ++ txt " =") :=
    ((((paid.prepend (k := 2) (a := txt "  ") (by decide) (by decide)).append (m := 3) (b := txt " x ") (by decide) (by decide)).append
      price.1 price.2.2).append (m := 2) (b := txt " =") (by decide) (by decide)).mono (by decide)
  exact less.append (labelValue_rows label (lineValue_legible (k := 7) (by omega)) (by omega) (by omega))

theorem lineRows_rows {i : Nat} {l : SnapLine} (name : nameFits l.name) (net : l.net ≤ 200000)
    (settled : ∀ f ∈ l.settlement, f.InRange) : Rows w 5 (lineRows w i l) := by
  have title : Rows w 1 [textLine w (txt "L" ++ decimal i ++ txt " " ++ l.name)] := by
    simp only [List.append_assoc]
    exact textLine_row (k := 1) (caption _ (by decide))
      ((decimal_inked i).append ((by decide : Inked (txt " ")).append name.2)) (by omega)
  have body := title.append (field_row wide (weight_legible net) (caption "  NET" (by decide)))
  unfold lineRows
  cases settlement : l.settlement with
  | none => exact (body.append (.nil w 0)).mono (by decide)
  | some f => exact body.append (settledRows_rows wide (settled f settlement))

theorem settlementRows_rows {f : SettlementFigures} (time : stampFits f.time) (amount : f.amount ≤ 1999998000) :
    Rows w 3 (settlementRows w f) := by
  have paid := money_legible (k := 7) (v := f.amount) (by rw [abs_of_nonneg (by omega)]; omega)
  have body := (field_row wide (dateTime_legible time) (caption "SETTLED" (by decide))).append
    (field_row wide paid (caption "AMOUNT" (by decide)))
  unfold settlementRows
  split
  · exact (body.append (.nil w 0)).mono (by decide)
  · split
    · exact body.append (textLine_row (k := 11) (caption _ (by decide)) (date_inked _) (by omega))
    · exact body.append (textLine_caption (k := 12) (caption _ (by decide)) (by omega))

theorem paymentRows_rows {amount : Nat} {f : PaymentFigures} (due : amount ≤ 1999998000) (time : stampFits f.time)
    (cash : ∀ c ∈ f.cashPaid, c ≤ 1999998100) (rounding : ∀ r ∈ f.rounding, |r| ≤ 100) :
    Rows w 5 (paymentRows w amount f) := by
  have till := field_row wide (decimal_legible (k := 0) (n := f.till.val) (by omega)) (caption "TILL" (by decide))
  have when := field_row wide (dateTime_legible time) (caption "PAID" (by decide))
  unfold paymentRows
  cases f.method with
  | cash =>
    have paid : Legible 12 (money (f.cashPaid.getD 0)) := by
      refine money_legible (k := 7) ?_
      cases held : f.cashPaid with
      | none => decide
      | some c =>
        have := cash c held
        rw [Option.getD_some, abs_of_nonneg (by omega)]
        omega
    have rounded : Legible 6 (money (f.rounding.getD 0)) := by
      refine money_legible (k := 1) ?_
      cases held : f.rounding with
      | none => decide
      | some r => exact (rounding r held).trans_lt (by decide)
    exact ((((field_row wide (caption "CASH" (by decide) : Legible 4 _) (caption _ (by decide))).append till).append
      (field_row wide paid (caption _ (by decide)))).append (field_row wide rounded (caption _ (by decide)))).append when
  | voucher =>
    have paid := money_legible (k := 7) (v := amount) (by rw [abs_of_nonneg (by omega)]; omega)
    exact ((((field_row wide (caption "VOUCHER" (by decide) : Legible 7 _) (caption _ (by decide))).append till).append
      (field_row wide paid (caption _ (by decide)))).append when).mono (by decide)

theorem ticketBody_rows {t : TicketSnap} (h : t.Fits) : Rows w 57 (ticketBody w t) := by
  obtain ⟨number, vehicle, seller, opened, few, weighings, short, lines, settlement, payment, void⟩ := h
  have parties := (((((field_row wide (decimal_legible (k := 5) (n := t.number) (by omega)) (caption "TICKET" (by decide))).append
    (field_row wide (ticketState_legible t.state) (caption "STATE" (by decide)))).append
    (field_row wide (vehicle_legible vehicle) (caption "VEHICLE" (by decide)))).append
    (field_row wide (seller_legible seller) (caption "SELLER" (by decide)))).append
    (field_row wide (dateTime_legible opened) (caption "OPENED" (by decide))))
  have weighed : Rows w (8 * 1) (numbered (weighingRow w) t.weighings) :=
    Rows.numbered few fun i hi e he => weighingRow_rows wide hi (weighings e he).1 (weighings e he).2
  have lined : Rows w (7 * 5) (numbered (lineRows w) t.lines) :=
    Rows.numbered short fun i _ l hl =>
      have ⟨name, net, settled⟩ := lines l hl
      lineRows_rows wide name net settled
  have amount : (t.settlement.map (·.amount)).getD 0 ≤ 1999998000 := by
    cases held : t.settlement with
    | none => decide
    | some f => exact (settlement f held).2
  have settled : Rows w 3 (match t.settlement with
      | some f => settlementRows w f
      | none => []) := by
    cases held : t.settlement with
    | none => exact .nil w 3
    | some f => exact settlementRows_rows wide (settlement f held).1 (settlement f held).2
  have paid : Rows w 5 (match t.payment with
      | some f => paymentRows w ((t.settlement.map (·.amount)).getD 0) f
      | none => []) := by
    cases held : t.payment with
    | none => exact .nil w 5
    | some f =>
      obtain ⟨time, cash, rounding⟩ := payment f held
      exact paymentRows_rows wide amount time cash rounding
  have voided : Rows w 1 (match t.void with
      | some v => labelValue w (txt "VOIDED") (dateTime v.time)
      | none => []) := by
    cases held : t.void with
    | none => exact .nil w 1
    | some v => exact field_row wide (dateTime_legible (void v held)) (caption _ (by decide))
  exact ((((parties.append weighed).append lined).append settled).append paid).append voided

/-! ### The till body and the day body (06 R122, R123) -/

omit wide in
theorem counter_legible {n : Nat} (h : counterFits n) : Legible 12 (decimal n) := by
  have : n ≤ 999999999999 := h
  exact decimal_legible (k := 11) (by omega)

omit wide in
theorem amount_legible {n : Nat} (h : counterFits n) : Legible 15 (money n) := by
  have : n ≤ 999999999999 := h
  exact money_legible (k := 10) (by rw [abs_of_nonneg (by omega)]; omega)

omit wide in
theorem balance_legible {v : Int} (h : |v| ≤ 999999999999) : Legible 15 (money v) :=
  money_legible (k := 10) (h.trans_lt (by decide))

theorem tillBody_rows {p : Port} {t : Till} {expected : Int} (h : t.Fits) (cash : |expected| ≤ 1000099999998) :
    Rows w 14 (tillBody w p t expected) := by
  obtain ⟨opened, float, loaded, paid, rounding, vouchers, voucherAmount, sum, tickets, counted, overShort⟩ := h
  have state : Legible 6 (if t.isOpen then txt "OPEN" else txt "CLOSED") := by split <;> exact caption _ (by decide)
  have expects : Legible 16 (money expected) := money_legible (k := 11) (cash.trans_lt (by decide))
  have initial := ((field_row wide (decimal_legible (k := 0) (n := p.val) (by omega)) (caption "TILL" (by decide))).append
    (field_row wide state (caption "STATE" (by decide)))).append
    (field_row wide (dateTime_legible opened) (caption "OPENED" (by decide)))
  have counts := ((((((((initial.append
    (field_row wide (amount_legible (n := t.float) (float.trans (by decide))) (caption "FLOAT" (by decide)))).append
    (field_row wide (amount_legible loaded) (caption "CASH LOADED" (by decide)))).append
    (field_row wide (amount_legible paid) (caption "CASH PAID" (by decide)))).append
    (field_row wide (balance_legible rounding) (caption "ROUNDING" (by decide)))).append
    (field_row wide (counter_legible vouchers) (caption "VOUCHERS" (by decide)))).append
    (field_row wide (amount_legible voucherAmount) (caption "VOUCHER AMOUNT" (by decide)))).append
    (field_row wide (amount_legible sum) (caption "TICKET SUM" (by decide)))).append
    (field_row wide (counter_legible tickets) (caption "TICKETS PAID" (by decide)))).append
    (field_row wide expects (caption "EXPECTED CASH" (by decide)))
  have close : Rows w 2 (match t.counted with
      | some c => labelValue w (txt "COUNTED") (money c) ++ labelValue w (txt "OVER/SHORT") (money (t.overShort.getD 0))
      | none => [textLine w (txt "FORCED CLOSE")]) := by
    have difference : Legible 16 (money (t.overShort.getD 0)) := by
      refine money_legible (k := 11) ?_
      cases held : t.overShort with
      | none => decide
      | some v => exact (overShort v held).trans_lt (by decide)
    cases held : t.counted with
    | none => exact (textLine_caption (k := 12) (caption _ (by decide)) (by omega)).mono (by decide)
    | some c =>
      exact (field_row wide (amount_legible (counted c held)) (caption _ (by decide))).append
        (field_row wide difference (caption _ (by decide)))
  exact counts.append close

end Width

theorem nameCell_inked {t : Text} (h : Inked t) (w : Nat) : Inked (nameCell w t) := (h.take w).append (inked_spaces _)

/-- 06 R123: the four columns and the spaces between them fill the width. -/
theorem columnLine_printed {w j k m : Nat} (width : w ∈ [32, 40, 48]) {name lines kg value : Text} (hn : Inked name)
    (hl : Legible j lines) (hk : Legible k kg) (hv : Legible m value) : printedLine w (columnLine w name lines kg value) := by
  have columns : ∃ a b c d, gradeColumns w = (a, b, c, d) ∧ 1 ≤ b ∧ 1 ≤ c ∧ 1 ≤ d ∧ a + b + c + d + 3 = w := by
    simp only [List.mem_cons, List.not_mem_nil, or_false] at width
    rcases width with rfl | rfl | rfl <;> exact ⟨_, _, _, _, rfl, by decide⟩
  obtain ⟨a, b, c, d, split, pb, pc, pd, fill⟩ := columns
  have first : (nameCell a name).length ≤ a := by
    simp only [nameCell, spaces, List.length_append, List.length_take, List.length_replicate]
    omega
  have second := numberCell_legible pb hl
  have third := numberCell_legible pc hk
  have gap : Inked (txt " ") ∧ (txt " ").length ≤ 1 := by decide
  have row := ((((((numberCell_legible pd hv).prepend gap.1 gap.2).prepend third.1 third.2.2).prepend gap.1 gap.2).prepend
    second.1 second.2.2).prepend gap.1 gap.2).prepend (nameCell_inked hn a) first
  simp only [columnLine, split]
  refine rstrip_printed (Legible.mono (k := a + (1 + (b + (1 + (c + (1 + d)))))) ?_ (by omega))
  simpa only [List.append_assoc] using row

/-- A decimal number in a column, however long. -/
theorem decimal_column (n : Nat) : Legible (n + 1) (decimal n) :=
  decimal_legible ((Nat.lt_pow_self (by decide)).trans (Nat.pow_lt_pow_right (by decide) (Nat.lt_succ_self n)))

/-- An amount in a column, however long. -/
theorem money_column (n : Nat) : Legible (n + 5) (money n) := by
  refine money_legible ?_
  have less : n < 10 ^ (n + 3) := (Nat.lt_pow_self (by decide)).trans (Nat.pow_lt_pow_right (by decide) (by omega))
  rw [abs_of_nonneg (by omega)]
  exact_mod_cast less

theorem gradeRow_printed {w : Nat} (width : w ∈ [32, 40, 48]) {r : GradeRow} (name : nameFits r.name) :
    printedLine w (Render.gradeRow w r) :=
  columnLine_printed width name.2 (decimal_column _) (decimal_column _) (money_column _)

theorem wide_of_width {w : Nat} (width : w ∈ [32, 40, 48]) : 32 ≤ w ∧ w ≤ 48 := by
  simp only [List.mem_cons, List.not_mem_nil, or_false] at width
  omega

theorem dayBody_rows {w : Nat} (width : w ∈ [32, 40, 48]) {d : DayTotals} {close : Option Stamp} {grades : List GradeRow}
    (h : d.Fits) (closed : stampFits close) (few : grades.length ≤ 40) (names : ∀ g ∈ grades, nameFits g.name) :
    Rows w 57 (dayBody w d close grades) := by
  obtain ⟨day, since, opened, settled, paidCash, paidVoucher, voided, cash, voucher, rounding, completed, interrupted,
    abandoned⟩ := h
  obtain ⟨wide, -⟩ := wide_of_width width
  have initial := ((field_row wide (decimal_legible (k := 4) (n := d.businessDay) (by omega))
    (caption "BUSINESS DAY" (by decide))).append
    (field_row wide (dateTime_legible since) (caption "SINCE" (by decide)))).append
    (field_row wide (dateTime_legible closed) (caption "CLOSED" (by decide)))
  have tickets := ((((initial.append
    (field_row wide (counter_legible opened) (caption "TICKETS OPENED" (by decide)))).append
    (field_row wide (counter_legible settled) (caption "TICKETS SETTLED" (by decide)))).append
    (field_row wide (counter_legible paidCash) (caption "PAID BY CASH" (by decide)))).append
    (field_row wide (counter_legible paidVoucher) (caption "PAID BY VOUCHER" (by decide)))).append
    (field_row wide (counter_legible voided) (caption "TICKETS VOIDED" (by decide)))
  have totals := (((((tickets.append
    (field_row wide (amount_legible cash) (caption "CASH TOTAL" (by decide)))).append
    (field_row wide (amount_legible voucher) (caption "VOUCHER TOTAL" (by decide)))).append
    (field_row wide (balance_legible rounding) (caption "ROUNDING TOTAL" (by decide)))).append
    (field_row wide (counter_legible completed) (caption "RCPT COMPLETED" (by decide)))).append
    (field_row wide (counter_legible interrupted) (caption "RCPT INTERRUPTED" (by decide)))).append
    (field_row wide (counter_legible abandoned) (caption "RCPT ABANDONED" (by decide)))
  have columns : Rows w 2 [ruleLine w, columnLine w (txt "GRADE") (txt "N") (txt "KG") (txt "VALUE")] :=
    (Rows.single (ruleLine_printed (by omega))).append (Rows.single (columnLine_printed (j := 1) (k := 2) (m := 5) width
      (by decide) (caption _ (by decide)) (caption _ (by decide)) (caption _ (by decide))))
  have rows : Rows w 40 (grades.map (Render.gradeRow w)) := by
    refine ⟨by simpa using few, fun l hl => ?_⟩
    obtain ⟨r, hr, rfl⟩ := List.mem_map.mp hl
    exact gradeRow_printed width (names r hr)
  have lost : Rows w 1 (if d.storeLost then [textLine w (txt "STORE LOST")] else []) := by
    split
    · exact textLine_caption (k := 10) (caption _ (by decide)) (by omega)
    · exact .nil w 1
  exact ((totals.append columns).append rows).append lost

/-! ### The receipt (06 R118) -/

theorem body_rows {w : Nat} (width : w ∈ [32, 40, 48]) {x : Snapshot} (h : x.Fits) : Rows w 57 (body w x) := by
  obtain ⟨wide, -⟩ := wide_of_width width
  cases x with
  | ticket t => exact ticketBody_rows wide h
  | till p t expected => exact (tillBody_rows wide h.1 h.2).mono (by decide)
  | day d close grades =>
    obtain ⟨day, closed, few, names⟩ := h
    exact dayBody_rows width day closed few names

theorem headerLines_rows {w : Nat} {header : List Text} (length : header.length = 6) (cells : ∀ l ∈ header, Inked l) :
    Rows w 6 (headerLines w header) := by
  refine ⟨?_, fun l hl => ?_⟩
  · rw [headerLines, List.length_map, ← length]
    exact List.length_filter_le _ _
  · obtain ⟨t, ht, rfl⟩ := List.mem_map.mp hl
    obtain ⟨held, shown⟩ := List.mem_filter.mp ht
    refine textLine_printed (cells t held) ?_
    simpa using shown

theorem title_legible (k : JobKind) : Legible 15 (title k) := by
  cases k <;> exact caption _ (by decide)

theorem copyMark_row {w : Nat} (wide : 32 ≤ w) (copyOf : Option Nat) : Rows w 1 [copyMark w copyOf] := by
  cases copyOf with
  | none => exact textLine_caption (k := 20) (caption _ (by decide)) (by omega)
  | some n => exact textLine_row (k := 8) (caption _ (by decide)) (zeroPadded_inked 8 n) (by omega)

/-- 06 R115, R118: the rendering of a job whose snapshot lies in its ranges. -/
theorem receipt_rows {w : Nat} (width : w ∈ [32, 40, 48]) {header : List Text} (length : header.length = 6)
    (cells : ∀ l ∈ header, Inked l) {now : Option Stamp} (time : stampFits now) {serial : Nat} (range : serial ≤ 99999999)
    {job : Job} (fits : job.snapshot.Fits) : Rows w 72 (receipt w header now serial job) := by
  obtain ⟨wide, -⟩ := wide_of_width width
  have number := serialNumber_legible range
  have label : Legible 12 (txt "No. " ++ serialNumber serial) :=
    (caption "No. " (by decide) : Legible 4 _).append number.1 number.2.2
  have restart : Rows w 1 (if job.restarts = 0 then [] else [textLine w (txt "RESTART " ++ decimal job.restarts)]) := by
    split
    · exact .nil w 1
    · exact textLine_row (k := 8) (caption _ (by decide)) (decimal_inked _) (by omega)
  have copied : Rows w 1 (if job.kind = .copy then [copyMark w job.copyOf] else []) := by
    split
    · exact copyMark_row wide job.copyOf
    · exact .nil w 1
  exact (((((((headerLines_rows length cells).append (textLine_caption (title_legible job.kind) (by omega))).append
    (field_row wide (dateTime_legible time) (label.mono (by decide)))).append restart).append copied).append
    (body_rows width fits)).append (Rows.single (ruleLine_printed (by omega)))).mono (by decide)

/-- A receipt has a line: the rule that ends it. -/
theorem receipt_length_pos (w : Nat) (header : List Text) (now : Option Stamp) (serial : Nat) (job : Job) :
    1 ≤ (receipt w header now serial job).length := by
  rw [receipt, List.length_append, List.length_singleton]
  exact Nat.le_add_left 1 _

end Sys2Proof.Machine
end

section
/-! PROOFS. The records that a receipt is composed of (06 R110, R111, R124): tickets, tills, day totals and jobs in their ranges,
what each change of a record keeps of them, and the snapshots taken of them. -/

namespace Sys2Proof.Machine

/-! ### Tickets -/

/-- 05 R92: the figures of a payment in their ranges. -/
def PaymentFigures.InRange (f : PaymentFigures) : Prop :=
  stampFits f.time ∧ (∀ c ∈ f.cashPaid, c ≤ 1999998100) ∧ ∀ r ∈ f.rounding, |r| ≤ 100

/-- `Ticket.Fits`, part by part. -/
structure Ticket.InRange (t : Ticket) : Prop where
  vehicle : ∀ v ∈ t.vehicle, vehicleFits v
  seller : ∀ n ∈ t.seller, numberFits n
  opened : stampFits t.opened
  weighings : ∀ w ∈ t.weighings, stampFits w.time
  settlement : ∀ x ∈ t.settlement, stampFits x.figures.time
  payment : ∀ x ∈ t.payment, x.figures.InRange
  void : ∀ v ∈ t.void, stampFits v.time

theorem Ticket.fits_iff (t : Ticket) : t.Fits ↔ t.InRange :=
  ⟨fun ⟨vehicle, seller, opened, weighings, settlement, payment, void⟩ =>
    ⟨vehicle, seller, opened, weighings, settlement, payment, void⟩,
   fun h => ⟨h.vehicle, h.seller, h.opened, h.weighings, h.settlement, h.payment, h.void⟩⟩

/-- A change of the settlement that keeps its time. -/
theorem Ticket.InRange.mapSettlement {t : Ticket} (h : t.InRange) {g : Settlement → Settlement}
    (same : ∀ x, (g x).figures.time = x.figures.time) : { t with settlement := t.settlement.map g }.InRange :=
  { h with
    settlement := fun y hy => by
      obtain ⟨x, here, rfl⟩ := Option.map_eq_some_iff.mp hy
      rw [same]
      exact h.settlement x here }

/-- 02 R32, R33: a weighing taken now appended. -/
theorem Ticket.InRange.append {t : Ticket} (h : t.InRange) {e : WeighEntry} (time : stampFits e.time) (grade : Nat)
    (manual : Option Nat) : (t.append e grade manual).InRange :=
  { h with
    weighings := fun w hw => by
      rcases List.mem_append.mp hw with old | new
      · exact h.weighings w old
      · rw [List.mem_singleton.mp new]
        exact time }

/-- 04 R71: a ticket settled now. -/
theorem settleTicket_inRange {t : Ticket} (h : t.InRange) (grades : List Grade) {clock : Clock}
    (time : stampFits (if clock.valid then some clock.now else none)) : (settleTicket grades clock t).InRange :=
  { h with settlement := fun x hx => by obtain rfl := Option.some.inj hx; exact time }

theorem resettleTicket_inRange {t : Ticket} (h : t.InRange) (k : Nat) (manual : Option Nat) :
    (resettleTicket (t.setManual k manual)).InRange :=
  Ticket.InRange.mapSettlement (t := { t with lines := resettledLines t k manual }) { h with } fun _ => rfl

theorem voidedTicket_inRange {t : Ticket} (h : t.InRange) {now : Option Stamp} (time : stampFits now) :
    (voidedTicket now t).InRange :=
  { h with void := fun v hv => by obtain rfl := Option.some.inj hv; exact time }

theorem paidTicket_inRange {t : Ticket} (h : t.InRange) {f : PaymentFigures} (range : f.InRange) : (paidTicket t f).InRange :=
  { h with payment := fun x hx => by obtain rfl := Option.some.inj hx; exact range }

theorem dated_inRange {t : Ticket} (h : t.InRange) (today : Date) : (t.dated today).InRange := by
  unfold Ticket.dated
  split
  · exact h.mapSettlement fun _ => rfl
  · exact h

theorem recordSerial_inRange {t : Ticket} (h : t.InRange) (kind : JobKind) (serial : Nat) :
    (recordSerial kind serial t).InRange := by
  have slip : ({ t with settlement := t.settlement.map fun x => { x with slipSerial := some serial } } : Ticket).InRange :=
    h.mapSettlement fun _ => rfl
  have receipt : ({ t with payment := t.payment.map fun x =>
      { x with receiptSerial := x.receiptSerial.or (some serial) } } : Ticket).InRange :=
    { h with
      payment := fun y hy => by
        obtain ⟨x, here, rfl⟩ := Option.map_eq_some_iff.mp hy
        exact h.payment x here }
  cases kind with
  | settleSlip => show Ticket.InRange (if _ then _ else _); split <;> assumption
  | payReceipt => show Ticket.InRange (if _ then _ else _); split <;> assumption
  | payVoucher => show Ticket.InRange (if _ then _ else _); split <;> assumption
  | voidSlip => exact h
  | tillReport => exact h
  | dayReport => exact h
  | copy => exact h

/-- 02 R29: a ticket opened now. -/
theorem opened_inRange {now : Option Stamp} (time : stampFits now) {vehicle : Option Text} {seller : Option Nat}
    (parties : (WeighTask.gross vehicle seller).Fits) (n w : Nat) (b : BridgeId) :
    ({ number := n, state := .loaded, pending := none, vehicle, seller, opened := now, weighings := [⟨.gross, w, b, now⟩]
       lines := [], settlement := none, payment := none, void := none } : Ticket).InRange where
  vehicle := parties.1
  seller := parties.2
  opened := time
  weighings e he := by rw [List.mem_singleton.mp he]; exact time
  settlement x hx := nomatch hx
  payment x hx := nomatch hx
  void x hx := nomatch hx

/-! ### Counters and payments -/

theorem satAddInt_abs_le (a n : Int) : |satAddInt a n| ≤ 999999999999 := by
  rw [abs_le]
  simp only [satAddInt, Config.counterMax]
  omega

/-- 05 R89: a cash amount lies within a step of the amount. -/
theorem cashAmount_near {step : Nat} (pos : 1 ≤ step) (amount : Nat) :
    cashAmount amount step ≤ amount + step ∧ |cashRounding amount step| ≤ step := by
  have rest := Nat.mod_lt amount pos
  have whole := Nat.mod_le amount step
  have near : cashAmount amount step ≤ amount + step ∧ amount ≤ cashAmount amount step + step := by
    unfold cashAmount
    dsimp only
    split <;> omega
  refine ⟨near.1, ?_⟩
  rw [abs_le, cashRounding]
  omega

/-- 05 R92: a payment of an amount that a ticket can have. -/
theorem paymentFigures_inRange {amount step : Nat} (due : amount ≤ 1999998000) (pos : 1 ≤ step) (small : step ≤ 100)
    {now : Option Stamp} (time : stampFits now) (p : Port) (m : Method) : (paymentFigures p m amount step now).InRange := by
  cases m with
  | cash =>
    obtain ⟨cash, rounding⟩ := cashAmount_near pos amount
    refine ⟨time, fun c hc => ?_, fun r hr => ?_⟩
    · obtain rfl := Option.some.inj hc
      omega
    · obtain rfl := Option.some.inj hr
      exact rounding.trans (by exact_mod_cast small)
  | voucher =>
    refine ⟨time, fun c (hc : none = some c) => ?_, fun r (hr : none = some r) => ?_⟩
    · contradiction
    · contradiction

/-! ### Tills -/

/-- `Till.Fits`, part by part. -/
structure Till.InRange (t : Till) : Prop where
  opened : stampFits t.opened
  float : t.float ≤ 99999999
  cashLoaded : counterFits t.cashLoaded
  cashPaid : counterFits t.cashPaid
  rounding : |t.rounding| ≤ 999999999999
  voucherCount : counterFits t.voucherCount
  voucherAmount : counterFits t.voucherAmount
  ticketSum : counterFits t.ticketSum
  ticketsPaid : counterFits t.ticketsPaid
  counted : ∀ c ∈ t.counted, counterFits c
  overShort : ∀ v ∈ t.overShort, |v| ≤ 2000099999998

theorem Till.fits_iff (t : Till) : t.Fits ↔ t.InRange :=
  ⟨fun ⟨opened, float, loaded, paid, rounding, vouchers, voucherAmount, sum, tickets, counted, overShort⟩ =>
    ⟨opened, float, loaded, paid, rounding, vouchers, voucherAmount, sum, tickets, counted, overShort⟩,
   fun h => ⟨h.opened, h.float, h.cashLoaded, h.cashPaid, h.rounding, h.voucherCount, h.voucherAmount, h.ticketSum,
    h.ticketsPaid, h.counted, h.overShort⟩⟩

theorem Till.InRange.expected_abs_le {t : Till} (h : t.InRange) : |t.expected| ≤ 1000099999998 := by
  have float := h.float
  have loaded : t.cashLoaded ≤ 999999999999 := h.cashLoaded
  have paid : t.cashPaid ≤ 999999999999 := h.cashPaid
  rw [abs_le, Till.expected]
  omega

theorem openedTill_inRange {float : Nat} (most : float ≤ 99999999) {now : Option Stamp} (time : stampFits now) :
    (openedTill float now).InRange where
  opened := time
  float := most
  cashLoaded := Nat.zero_le _
  cashPaid := Nat.zero_le _
  rounding := (by decide : |(0 : Int)| ≤ 999999999999)
  voucherCount := Nat.zero_le _
  voucherAmount := Nat.zero_le _
  ticketSum := Nat.zero_le _
  ticketsPaid := Nat.zero_le _
  counted c hc := nomatch hc
  overShort v hv := nomatch hv

theorem closedTill_inRange : closedTill.InRange :=
  { openedTill_inRange (float := 0) (by decide) (now := none) (fun _ hx => nomatch hx) with }

theorem countedTill_inRange {t : Till} (h : t.InRange) {counted : Nat} (most : counted ≤ 999999999999) :
    (countedTill t counted).InRange :=
  { h with
    counted := fun c hc => by obtain rfl := Option.some.inj hc; exact most
    overShort := fun v hv => by
      obtain rfl := Option.some.inj hv
      have expected := abs_le.mp h.expected_abs_le
      rw [abs_le]
      omega }

theorem forcedTill_inRange {t : Till} (h : t.InRange) : (forcedTill t).InRange :=
  { h with counted := fun _ hc => (nomatch hc), overShort := fun _ hv => (nomatch hv) }

theorem loadedTill_inRange {t : Till} (h : t.InRange) (amount : Nat) :
    { t with cashLoaded := satAdd t.cashLoaded amount }.InRange := { h with cashLoaded := satAdd_le _ _ }

theorem chargeTill_inRange {t : Till} (h : t.InRange) (m : Method) (amount step : Nat) : (chargeTill t m amount step).InRange := by
  cases m with
  | cash =>
    exact { h with
      ticketSum := satAdd_le _ _, ticketsPaid := satAdd_le _ _, cashPaid := satAdd_le _ _, rounding := satAddInt_abs_le _ _ }
  | voucher =>
    exact { h with
      ticketSum := satAdd_le _ _, ticketsPaid := satAdd_le _ _, voucherCount := satAdd_le _ _, voucherAmount := satAdd_le _ _ }

/-! ### Day totals -/

/-- `DayTotals.Fits`, part by part. -/
structure DayTotals.InRange (d : DayTotals) : Prop where
  businessDay : d.businessDay ≤ 65535
  since : stampFits d.since
  opened : counterFits d.opened
  settled : counterFits d.settled
  paidCash : counterFits d.paidCash
  paidVoucher : counterFits d.paidVoucher
  voided : counterFits d.voided
  cashTotal : counterFits d.cashTotal
  voucherTotal : counterFits d.voucherTotal
  roundingTotal : |d.roundingTotal| ≤ 999999999999
  completed : counterFits d.completed
  interrupted : counterFits d.interrupted
  abandoned : counterFits d.abandoned

theorem DayTotals.fits_iff (d : DayTotals) : d.Fits ↔ d.InRange :=
  ⟨fun ⟨day, since, opened, settled, paidCash, paidVoucher, voided, cash, voucher, rounding, completed, interrupted, abandoned⟩ =>
    ⟨day, since, opened, settled, paidCash, paidVoucher, voided, cash, voucher, rounding, completed, interrupted, abandoned⟩,
   fun h => ⟨h.businessDay, h.since, h.opened, h.settled, h.paidCash, h.paidVoucher, h.voided, h.cashTotal, h.voucherTotal,
    h.roundingTotal, h.completed, h.interrupted, h.abandoned⟩⟩

theorem firstDay_inRange : firstDay.InRange where
  businessDay := by decide
  since x hx := nomatch hx
  opened := Nat.zero_le _
  settled := Nat.zero_le _
  paidCash := Nat.zero_le _
  paidVoucher := Nat.zero_le _
  voided := Nat.zero_le _
  cashTotal := Nat.zero_le _
  voucherTotal := Nat.zero_le _
  roundingTotal := by decide
  completed := Nat.zero_le _
  interrupted := Nat.zero_le _
  abandoned := Nat.zero_le _

/-- 08 R162: the totals of a day that begins now. -/
theorem clearedDay_inRange (d : DayTotals) {now : Option Stamp} (time : stampFits now) : (clearedDay d now).InRange :=
  { firstDay_inRange with
    businessDay := by
      show nextBusinessDay d.businessDay ≤ 65535
      unfold nextBusinessDay
      split <;> omega
    since := time }

theorem chargeDay_inRange {d : DayTotals} (h : d.InRange) (m : Method) (amount step : Nat) :
    (chargeDay d m amount step).InRange := by
  cases m with
  | cash => exact { h with paidCash := satAdd_le _ _, cashTotal := satAdd_le _ _, roundingTotal := satAddInt_abs_le _ _ }
  | voucher => exact { h with paidVoucher := satAdd_le _ _, voucherTotal := satAdd_le _ _ }

/-! ### Snapshots (06 R110, R111) -/

/-- 03 R46: the names of a grade table in their ranges. -/
def NamesFit (grades : List Grade) : Prop := ∀ d ∈ grades.filterMap (·.defn), nameFits d.name

theorem NamesFit.congr {grades others : List Grade} (same : others.map (·.defn) = grades.map (·.defn)) (h : NamesFit grades) :
    NamesFit others := by
  have defined (gs : List Grade) : gs.filterMap (·.defn) = (gs.map (·.defn)).filterMap id := by simp [List.filterMap_map]
  intro d hd
  rw [defined, same, ← defined] at hd
  exact h d hd

/-- The name of an entry, empty for an EMPTY one. -/
theorem NamesFit.name {grades : List Grade} (h : NamesFit grades) {o : Option Grade} (held : ∀ g ∈ o, g ∈ grades) :
    nameFits (((o.bind (·.defn)).map (·.name)).getD []) := by
  cases entry : o.bind (·.defn) with
  | none => exact ⟨Nat.zero_le _, fun _ hc => nomatch hc⟩
  | some d =>
    obtain ⟨g, here, defn⟩ := Option.bind_eq_some_iff.mp entry
    exact h d (List.mem_filterMap.mpr ⟨g, held g here, defn⟩)

theorem gradeName_fits {s : State} (h : NamesFit s.grades) (i : Nat) : nameFits (s.gradeName i) :=
  h.name fun _ here => List.mem_of_getElem? here

theorem netsAgree_length {ws : List WeighEntry} {ls : List Line} (h : netsAgree ws ls = true) :
    ls.length + 1 = ws.length := by
  induction ws generalizing ls with
  | nil => simp [netsAgree] at h
  | cons a rest ih =>
    cases rest with
    | nil =>
      cases ls with
      | nil => rfl
      | cons l ls => simp [netsAgree] at h
    | cons b rest =>
      cases ls with
      | nil => simp [netsAgree] at h
      | cons l ls =>
        simp only [netsAgree, Bool.and_eq_true] at h
        rw [List.length_cons, ih h.2]
        rfl

/-- 06 R110: the snapshot of a line of a sound ticket. -/
theorem snapLine_fits {s : State} (names : NamesFit s.grades) {t : Ticket} (parts : t.Parts) {l : Line} (hl : l ∈ t.lines) :
    nameFits (s.snapLine l).name ∧ (s.snapLine l).net ≤ 200000 ∧ ∀ f ∈ (s.snapLine l).settlement, f.InRange := by
  have net : l.net ≤ 200000 := (List.le_sum_of_mem (List.mem_map_of_mem hl)).trans parts.weighed.nets_sum_le
  refine ⟨gradeName_fits names l.grade, net, fun f hf => ?_⟩
  obtain ⟨x, here, rfl⟩ := Option.map_eq_some_iff.mp hf
  cases settlement : t.settlement with
  | none =>
    rw [(parts.unsettled settlement).1 l hl] at here
    contradiction
  | some y =>
    obtain ⟨-, figures, -, -⟩ := parts.figures_le settlement
    obtain ⟨payable, value⟩ := figures l hl x here
    have computed := (parts.figured y settlement).computed l hl
    simp only [Line.computed, here, Bool.and_eq_true, decide_eq_true_eq] at computed
    obtain ⟨⟨⟨⟨⟨-, whole⟩, -⟩, price⟩, -⟩, -⟩ := computed
    exact ⟨price, by dsimp only; omega, payable.trans net, value⟩

/-- 06 R110: the snapshot of a sound ticket in its ranges. -/
theorem snapTicket_fits {s : State} (names : NamesFit s.grades) {t : Ticket} (parts : t.Parts) (range : t.InRange)
    (number : t.number ≤ 999999) : (s.snapTicket t).Fits := by
  have weighed := parts.weighed
  have short := netsAgree_length weighed.nets
  have few := weighed.few
  refine ⟨number, range.vehicle, fun n hn => (range.seller n hn).2, range.opened, few,
    fun w hw => ⟨weighed.weights w hw, range.weighings w hw⟩, ?_, fun l hl => ?_, fun f hf => ?_, fun f hf => ?_, range.void⟩
  · rw [List.length_map]
    omega
  · obtain ⟨m, hm, rfl⟩ := List.mem_map.mp hl
    exact snapLine_fits names parts hm
  · obtain ⟨x, here, rfl⟩ := Option.map_eq_some_iff.mp hf
    obtain ⟨-, -, -, amount⟩ := parts.figures_le here
    exact ⟨range.settlement x here, amount⟩
  · obtain ⟨x, here, rfl⟩ := Option.map_eq_some_iff.mp hf
    exact range.payment x here

theorem snapTill_fits {s : State} {p : Port} (h : (s.till p).InRange) : (s.snapTill p).Fits :=
  ⟨((s.till p).fits_iff).mpr h, h.expected_abs_le⟩

theorem snapDay_fits {s : State} (day : s.day.InRange) (time : stampFits s.stamp) (names : NamesFit s.grades)
    (few : s.grades.length ≤ 40) : s.snapDay.Fits := by
  refine ⟨(s.day.fits_iff).mpr day, time, ?_, fun r hr => ?_⟩
  · rw [State.gradeRows, List.length_map]
    exact (List.length_filter_le _ _).trans (by simpa using few)
  · obtain ⟨g, hg, rfl⟩ := List.mem_map.mp hr
    obtain ⟨-, -, here⟩ := List.mem_zipIdx (List.mem_of_mem_filter hg)
    exact names.name (o := some g.1) fun _ same => Option.some.inj same ▸ here ▸ List.getElem_mem _

/-! ### Jobs and ports (06 R115, R124, 07 R131) -/

/-- 07 R131: a job whose snapshot and serial lie in their ranges. -/
def Job.Fits (j : Job) : Prop := j.snapshot.Fits ∧ ∀ n ∈ j.serial, n ≤ 99999999

/-- 06 R115: the lines of a rendering that a port holds. -/
def Printed (lines : List Text) : Prop := 1 ≤ lines.length ∧ lines.length ≤ 72 ∧ ∀ l ∈ lines, printedLine 48 l

/-- A port whose jobs and whose rendering fit. -/
structure Printer.Filed (x : Printer) : Prop where
  jobs : ∀ j ∈ x.queue, j.Fits
  rendering : ∀ lines ∈ x.rendered, Printed lines

theorem newJob_fits (kind : JobKind) (p : Port) {x : Snapshot} (h : x.Fits) (copyOf : Option Nat) :
    (newJob kind p x copyOf).Fits := ⟨h, fun _ hn => nomatch hn⟩

theorem setHead_jobs {x : Printer} (h : ∀ j ∈ x.queue, j.Fits) {f : Job → Job} (kept : ∀ j ∈ x.queue, (f j).Fits) :
    ∀ j ∈ (x.setHead f).queue, j.Fits := by
  intro j hj
  unfold Printer.setHead at hj
  cases queue : x.queue with
  | nil =>
    rw [queue] at hj
    contradiction
  | cons head rest =>
    simp only [queue] at hj
    rcases List.mem_cons.mp hj with rfl | old
    · exact kept head (by rw [queue]; exact List.mem_cons_self)
    · exact h j (by rw [queue]; exact List.mem_cons_of_mem head old)

/-- A change of the head job that keeps its snapshot and its serial. -/
theorem Printer.Filed.setHead {x : Printer} (h : x.Filed) {f : Job → Job} (snapshot : ∀ j, (f j).snapshot = j.snapshot)
    (serial : ∀ j, (f j).serial = j.serial) : (x.setHead f).Filed where
  jobs := setHead_jobs h.jobs fun j hj => by
    obtain ⟨fits, range⟩ := h.jobs j hj
    exact ⟨by rw [snapshot]; exact fits, by rw [serial]; exact range⟩
  rendering := h.rendering

theorem Printer.Filed.pauseHead {x : Printer} (h : x.Filed) : x.pauseHead.Filed :=
  { h.setHead (f := fun j => { j with state := .paused }) (fun _ => rfl) (fun _ => rfl) with
    rendering := fun _ hl => nomatch hl }

/-- 07 R136, R142: the head removed. -/
theorem Printer.Filed.drop {x : Printer} (h : x.Filed) : { x with queue := x.queue.drop 1 }.Filed :=
  ⟨fun j hj => h.jobs j (List.mem_of_mem_drop hj), h.rendering⟩

/-! ### The records of the part -/

/-- The records of `ReceiptsFit`, part by part. -/
structure State.Filed (s : State) : Prop where
  tickets : ∀ t ∈ entries s.tickets, t.InRange
  tasks : ∀ b x, (s.bridge b).weighing = some x → x.task.Fits
  tills : ∀ p, (s.till p).InRange
  day : s.day.InRange
  printers : ∀ p, (s.printer p).Filed

theorem State.receiptsFit_iff (s : State) : s.ReceiptsFit ↔ s.Filed := by
  constructor
  · rintro ⟨tickets, tasks, tills, day, jobs, renderings⟩
    exact ⟨fun t ht => (t.fits_iff).mp (tickets t ht), tasks, fun p => ((s.till p).fits_iff).mp (tills p),
      (s.day.fits_iff).mp day, fun p => ⟨jobs p, renderings p⟩⟩
  · rintro ⟨tickets, tasks, tills, day, printers⟩
    exact ⟨fun t ht => (t.fits_iff).mpr (tickets t ht), tasks, fun p => ((s.till p).fits_iff).mpr (tills p),
      (s.day.fits_iff).mpr day, fun p => (printers p).jobs, fun p => (printers p).rendering⟩

section Rules

variable {s : State} (h : s.Filed)
include h

theorem State.Filed.setConsole (p : Port) (c : Console) : (s.setConsole p c).Filed := { h with }

theorem State.Filed.setBridge {b : BridgeId} {y : Bridge} (task : ∀ x, y.weighing = some x → x.task.Fits) :
    (s.setBridge b y).Filed :=
  { h with
    tasks := fun c x pending => by
      rw [State.bridge_setBridge] at pending
      split at pending
      · exact task x pending
      · exact h.tasks c x pending }

/-- A bridge that keeps its weighing. -/
theorem State.Filed.moveBridge {b : BridgeId} {y : Bridge} (same : y.weighing = (s.bridge b).weighing) :
    (s.setBridge b y).Filed := h.setBridge fun x pending => h.tasks b x (same ▸ pending)

theorem State.Filed.startWeighing (b : BridgeId) (p : Port) {task : WeighTask} (fits : task.Fits) :
    (s.startWeighing b p task).Filed :=
  h.setBridge fun x pending => by obtain rfl := Option.some.inj pending; exact fits

theorem State.Filed.putTicket {t : Ticket} (range : t.InRange) (i : Nat) : (s.putTicket i t).Filed :=
  { h with
    tickets := fun u hu => by
      rcases List.mem_or_eq_of_mem_set (mem_entries.mp hu) with old | new
      · exact h.tickets u (mem_entries.mpr old)
      · obtain rfl := Option.some.inj new
        exact range }

theorem State.Filed.setTill (p : Port) {t : Till} (range : t.InRange) : (s.setTill p t).Filed :=
  { h with
    tills := fun q => by
      rw [State.till_setTill]
      split
      · exact range
      · exact h.tills q }

theorem State.Filed.setPrinter (p : Port) {x : Printer} (filed : x.Filed) : (s.setPrinter p x).Filed :=
  { h with
    printers := fun q => by
      rw [State.printer_setPrinter]
      split
      · exact filed
      · exact h.printers q }

/-- A port that keeps its queue and its rendering. -/
theorem State.Filed.movePrinter {p : Port} {x : Printer} (queue : x.queue = (s.printer p).queue)
    (rendered : x.rendered = (s.printer p).rendered) : (s.setPrinter p x).Filed :=
  h.setPrinter p ⟨by rw [queue]; exact (h.printers p).jobs, by rw [rendered]; exact (h.printers p).rendering⟩

theorem State.Filed.enqueue (p : Port) {job : Job} (fits : job.Fits) : (s.enqueue p job).Filed :=
  h.setPrinter p ⟨fun j hj => (List.mem_append.mp hj).elim ((h.printers p).jobs j)
    fun new => by rw [List.mem_singleton.mp new]; exact fits, (h.printers p).rendering⟩

theorem State.Filed.offer (p : Port) {job : Job} (fits : job.Fits) : (s.offer p job).1.Filed := by
  rw [State.offer_eq]
  split
  · exact h.enqueue p fits
  · exact h

theorem State.Filed.endFlight (p : Port) (r : ResultCode) (fields : List Byte) : (s.endFlight p r fields).Filed := by
  rw [State.endFlight_eq]
  split
  · exact h
  · exact h.setConsole p _

theorem State.Filed.clearTaskMark (task : WeighTask) : (s.clearTaskMark task).Filed := by
  unfold State.clearTaskMark
  split
  · rename_i n _
    rcases s.clearMark_cases n with ⟨-, same⟩ | ⟨i, t, found, cleared⟩
    · rw [same]; exact h
    · rw [cleared]
      have range := h.tickets t (State.findTicket_mem found)
      exact h.putTicket (t := { t with pending := none }) { range with } i
  · exact h

theorem State.Filed.dropWeighing (b : BridgeId) : (s.dropWeighing b).Filed := by
  unfold State.dropWeighing
  split
  · exact h
  · exact (h.clearTaskMark _).setBridge fun _ pending => nomatch pending

theorem State.Filed.failWeighing (b : BridgeId) (r : ResultCode) : (s.failWeighing b r).Filed := by
  unfold State.failWeighing
  split
  · exact h
  · exact (h.dropWeighing b).endFlight _ r _

theorem State.Filed.endReceipt (p : Port) (n : Nat) (o : JournalOutcome) : (s.endReceipt p n o).Filed := by
  cases o with
  | printing => exact { h with }
  | complete => exact { h with day := { h.day with completed := satAdd_le _ _ } }
  | interrupted => exact { h with day := { h.day with interrupted := satAdd_le _ _ } }
  | abandoned => exact { h with day := { h.day with abandoned := satAdd_le _ _ } }

end Rules

end Sys2Proof.Machine
end

section
/-! PROOFS. Every request keeps the records that receipts are composed of in their ranges (06 R110, R111). -/

namespace Sys2Proof.Machine

/-- The laws of the other records that the receipts lean on. -/
structure State.Lawful (s : State) : Prop where
  yard : s.Surveyed
  records : s.RecordsSound
  numbers : ∀ t ∈ entries s.tickets, t.number ≤ 999999
  names : NamesFit s.grades
  few : s.grades.length ≤ 40
  step : 1 ≤ s.limits.step ∧ s.limits.step ≤ 100
  stamped : stampFits s.stamp
  header : s.header.length = 6 ∧ ∀ l ∈ s.header, Inked l
  paper : ∀ p, (s.printer p).width ∈ [32, 40, 48]

theorem Quiet.lawful {s t : State} (q : Quiet s t) (h : s.Lawful) : t.Lawful where
  yard := q.surveyed h.yard
  records := by unfold State.RecordsSound; rw [q.tickets]; exact h.records
  numbers := by rw [q.tickets]; exact h.numbers
  names := h.names.congr q.grades
  few := by rw [q.sameTables.grades]; exact h.few
  step := by rw [q.limits]; exact h.step
  stamped := by unfold State.stamp; rw [q.clock]; exact h.stamped
  header := by rw [q.header]; exact h.header
  paper p := by rw [(q.paper p).1]; exact h.paper p

theorem lawful_of_sound {s : State} (tickets : s.TicketsSound) (grades : s.GradesSound) (tables : s.TablesSound)
    (settings : s.SettingsSound) (clock : s.ClockSound) (numbers : s.NumbersSound) (claims : s.ClaimsSound)
    (tares : s.TaresSound) : s.Lawful where
  yard := ⟨numbers.1, (s.claimsSound_iff).mp claims, GradesSound_range grades, tares.2, fun b => (settings.1 b).1⟩
  records := ((s.ticketsSound_iff).mp tickets).1
  numbers t ht := (numbers.2.1 t ht).2
  names d hd := by
    obtain ⟨-, range, -, -⟩ := grades
    obtain ⟨-, -, -, length, chars, -⟩ := range d hd
    exact ⟨length, chars⟩
  few := by
    obtain ⟨-, length, -⟩ := tables
    exact length.le
  step := by
    obtain ⟨-, -, -, -, step, -⟩ := ((s.settingsSound_iff).mp settings).2
    revert step
    generalize s.limits.step = n
    simp only [List.mem_cons, List.not_mem_nil, or_false]
    omega
  stamped x hx := by
    obtain ⟨y1, y2, m1, m2, d1, d2, hour, minute, second⟩ := clock
    unfold State.stamp at hx
    split at hx
    · obtain rfl := Option.some.inj hx
      exact (stampValid_iff _).mpr ⟨decide_eq_true ⟨y1, y2, m1, m2, d1, d2⟩, hour, minute, second⟩
    · contradiction
  header := by
    obtain ⟨-, -, -, length, cells⟩ := tables
    exact ⟨length, fun l hl => (cells l hl).2⟩
  paper p := by
    obtain ⟨-, -, -, -, -, paper⟩ := ((s.settingsSound_iff).mp settings).2
    exact (paper p).1

/-- What the laws say of a ticket that is found. -/
theorem State.Lawful.of_found {s : State} (laws : s.Lawful) (filed : s.Filed) {n i : Nat} {t : Ticket}
    (found : s.findTicket n = some (i, t)) : t.Parts ∧ t.InRange ∧ t.number ≤ 999999 :=
  have held := State.findTicket_mem found
  ⟨laws.records t held, filed.tickets t held, laws.numbers t held⟩

/-- 04 R78, 05 R87: the state that neither check refuses. -/
theorem settled_or_held {x : TicketState} (h : ¬ (x ≠ .settled ∧ x ≠ .held)) : x = .settled ∨ x = .held := by
  by_contra other
  exact h (not_or.mp other)

/-! ### Requests -/

/-- The state after a block's reply keeps its records in their ranges. -/
def Reply.Filed : Reply → Prop
  | .refuse _ => True
  | .done _ t => t.Filed
  | .flight _ t => t.Filed

theorem takeRequest_filed {α : Type} {cls : Byte} {permitted : Role → Bool} {decode : List Byte → Option α}
    {act : Port → α → State → Reply} {p : Port} {fields : List Byte} {s t : State}
    (taken : takeRequest cls permitted decode act p fields s = .next t) (laws : s.Lawful) (filed : s.Filed)
    (reply : ∀ r u, decode fields = some r → u.Lawful → u.Filed → (act p r u).Filed) : t.Filed := by
  have idle : (s.idleReceiver p).Filed := filed.setConsole p _
  refine takeRequest_keeps (P := State.Filed) taken filed idle (fun code _ => idle.setConsole p _) fun r decoded _ _ _ _ => ?_
  have replied := reply r (s.idleReceiver p) decoded ((Quiet.idleReceiver s p).lawful laws) idle
  cases answer : act p r (s.idleReceiver p) with
  | refuse code => exact idle.setConsole p _
  | done out u =>
    rw [answer] at replied
    exact State.Filed.setConsole replied p _
  | flight b u =>
    rw [answer] at replied
    exact State.Filed.setConsole replied p _

/-! ### Decoded fields -/

theorem vehicleOk_fits {v : Text} (h : Decode.vehicleOk v = true) : vehicleFits v := by
  simp only [Decode.vehicleOk, Bool.and_eq_true, decide_eq_true_eq, List.all_eq_true, Decode.vehicleChar] at h
  exact ⟨h.1.1, h.1.2, h.2⟩

theorem takeOptVehicle_fits {bs rest : List Byte} {v : Option Text} (h : Decode.takeOptVehicle bs = some (v, rest)) :
    ∀ x ∈ v, vehicleFits x := by
  unfold Decode.takeOptVehicle at h
  split at h
  · contradiction
  · split at h
    · cases h
      exact fun _ hx => nomatch hx
    · split at h
      · cases h
        exact fun x hx => Option.some.inj hx ▸ vehicleOk_fits ‹_›
      · contradiction

theorem numberOk_all {n : Option Nat} (h : n.all Decode.numberOk = true) : ∀ x ∈ n, numberFits x := by
  intro x hx
  rw [hx] at h
  simpa [Decode.numberOk] using h

theorem openTicket_decoded {fields : List Byte} {r : OpenTicketReq} (h : Decode.openTicket fields = some r) :
    (WeighTask.gross r.vehicle r.seller).Fits := by
  simp only [Decode.openTicket, bind, Option.bind_eq_some_iff, Decode.finish_iff] at h
  obtain ⟨_, -, _, vehicle, _, -, -, seller, rfl⟩ := h
  exact ⟨takeOptVehicle_fits vehicle, numberOk_all seller⟩

theorem setParty_decoded {fields : List Byte} {r : SetPartyReq} (h : Decode.setParty fields = some r) :
    (∀ v ∈ r.vehicle, vehicleFits v) ∧ ∀ n ∈ r.seller, numberFits n := by
  simp only [Decode.setParty, bind, Option.bind_eq_some_iff, Decode.finish_iff, Bool.and_eq_true] at h
  obtain ⟨_, -, _, vehicle, _, -, -, ⟨⟨-, seller⟩, -⟩, rfl⟩ := h
  exact ⟨takeOptVehicle_fits vehicle, numberOk_all seller⟩

theorem openTill_decoded {fields : List Byte} {float : Nat} (h : Decode.openTill fields = some float) : float ≤ 99999999 := by
  simp only [Decode.openTill, bind, Option.bind_eq_some_iff, Decode.finish_iff, decide_eq_true_eq] at h
  obtain ⟨_, -, -, most, rfl⟩ := h
  exact most

theorem closeTill_decoded {fields : List Byte} {counted : Nat} (h : Decode.closeTill fields = some counted) :
    counted ≤ 999999999999 := by
  simp only [Decode.closeTill, bind, Option.bind_eq_some_iff, Decode.finish_iff, decide_eq_true_eq] at h
  obtain ⟨_, -, -, most, rfl⟩ := h
  exact most

/-! ### Closing a ticket (04 R63 to R75) -/

/-- The settlement slip of a ticket of a state with these grades. -/
theorem State.Filed.offerSettleSlip {s : State} (h : s.Filed) (names : NamesFit s.grades) {t : Ticket} (parts : t.Parts)
    (range : t.InRange) (number : t.number ≤ 999999) (p : Port) : (s.offerSettleSlip p t).1.Filed :=
  h.offer p (newJob_fits _ p (snapTicket_fits names parts range number) none)

theorem State.Filed.closeTicket {s : State} (h : s.Filed) (laws : s.Lawful) {t : Ticket} (range : t.InRange)
    (number : t.number ≤ 999999) (parts : (settleTicket s.grades s.clock t).Parts) (i : Nat) (p : Port) :
    (s.closeTicket i t p).1.Filed := by
  have settled := settleTicket_inRange range s.grades laws.stamped
  have counted : ({ s with tickets := s.tickets.set i (some (settleTicket s.grades s.clock t))
                           day := { s.day with settled := satAdd s.day.settled 1 } } : State).Filed :=
    { h.putTicket settled i with day := { h.day with settled := satAdd_le _ _ } }
  exact counted.offerSettleSlip laws.names parts settled number p

section Replies

variable {s : State} (laws : s.Lawful) (filed : s.Filed) (p : Port)
include filed

/-! ### Requests of the console ports and the weigh links -/

theorem abortReply_filed (r : Unit) : (abortReply p r s).Filed := by
  unfold abortReply
  split
  · trivial
  · exact (filed.dropWeighing _).endFlight p _ _

theorem openTicketReply_filed {r : OpenTicketReq} (parties : (WeighTask.gross r.vehicle r.seller).Fits) :
    (openTicketReply p r s).Filed := by
  rw [openTicketReply_eq]
  split
  · trivial
  · exact filed.startWeighing r.bridge p parties

theorem weighReply_filed (drop : Bool) (r : WeighReq) : (weighReply drop p r s).Filed := by
  unfold weighReply
  split
  · trivial
  · rcases found : s.findTicket r.ticket with _ | ⟨i, t⟩
    · trivial
    · dsimp only
      iterate 3 (split; · trivial)
      split
      · trivial
      · have range := filed.tickets t (State.findTicket_mem found)
        have marked := filed.putTicket (t := { t with pending := some r.bridge }) { range with } i
        exact marked.startWeighing r.bridge p (by cases drop <;> trivial)

theorem storeTareReply_filed (r : StoreTareReq) : (storeTareReply p r s).Filed := by
  rw [storeTareReply_eq]
  split
  · trivial
  · exact filed.startWeighing r.bridge p trivial

theorem zeroReply_filed (b : BridgeId) : (zeroReply p b s).Filed := by
  rw [zeroReply_eq _ p s b rfl]
  split
  · trivial
  · exact filed.moveBridge rfl

theorem setBridgeReply_filed (r : SetBridgeReq) : (setBridgeReply p r s).Filed := by
  unfold setBridgeReply
  dsimp only
  split
  · trivial
  · exact filed.moveBridge rfl

/-! ### Requests of the tables, the clock and the queues -/

theorem setGradeReply_filed (r : SetGradeReq) : (setGradeReply p r s).Filed := by
  unfold setGradeReply
  split
  · trivial
  · split
    · trivial
    · exact { filed with }

theorem removeGradeReply_filed (code : Nat) : (removeGradeReply p code s).Filed := by
  unfold removeGradeReply
  split
  · trivial
  · split
    · trivial
    · exact { filed with }

theorem deleteTareReply_filed (v : Text) : (deleteTareReply p v s).Filed := by
  unfold deleteTareReply
  split
  · trivial
  · exact { filed with }

theorem alignMinuteReply_filed (r : Unit) : (alignMinuteReply p r s).Filed := by
  unfold alignMinuteReply
  split
  · trivial
  · exact { filed with }

theorem setClockReply_filed (now : Stamp) : (setClockReply p now s).Filed :=
  { filed with
    tickets := fun t ht => by
      rw [entries_map] at ht
      obtain ⟨u, hu, rfl⟩ := List.mem_map.mp ht
      exact dated_inRange (filed.tickets u hu) now.date }

theorem setPrinterReply_filed (r : SetPrinterReq) : (setPrinterReply p r s).Filed := filed.movePrinter rfl rfl

theorem discardJobReply_filed (r : Unit) : (discardJobReply p r s).Filed := by
  have removed : (s.removeHead p).Filed := filed.setPrinter p (filed.printers p).drop
  unfold discardJobReply
  split
  · trivial
  · split
    · trivial
    · exact removed
    · split
      · exact removed
      · exact removed.endReceipt p _ _

/-! ### Queries -/

theorem queryTicketReply_filed (r : QueryTicketReq) : (queryTicketReply p r s).Filed := by
  unfold queryTicketReply
  split
  · trivial
  · split <;> exact filed

theorem queryGradeReply_filed (r : QueryGradeReq) : (queryGradeReply p r s).Filed := by
  unfold queryGradeReply
  split
  · split
    · trivial
    · exact filed
  · exact filed

theorem queryTareReply_filed (r : QueryTareReq) : (queryTareReply p r s).Filed := by
  unfold queryTareReply
  split
  · split
    · trivial
    · exact filed
  · split
    · trivial
    · exact filed

theorem queryJournalReply_filed (r : QueryJournalReq) : (queryJournalReply p r s).Filed := by
  unfold queryJournalReply
  split
  · split
    · trivial
    · exact filed
  · split
    · trivial
    · exact filed

theorem queryTotalsReply_filed (r : QueryTotalsReq) : (queryTotalsReply p r s).Filed := by
  unfold queryTotalsReply
  split <;> exact filed

/-! ### Requests of the payout unit -/

theorem loadCashReply_filed (amount : Nat) : (loadCashReply p amount s).Filed := by
  unfold loadCashReply
  split
  · trivial
  · exact filed.setTill p (loadedTill_inRange (filed.tills p) amount)

theorem closeTillReply_filed {counted : Nat} (most : counted ≤ 999999999999) : (closeTillReply p counted s).Filed := by
  unfold closeTillReply
  split
  · trivial
  · split
    · trivial
    · have closed := filed.setTill p (countedTill_inRange (filed.tills p) most)
      exact closed.enqueue p (newJob_fits _ p (snapTill_fits (closed.tills p)) none)

theorem forceCloseTillReply_filed (k : Port) : (forceCloseTillReply p k s).Filed := by
  unfold forceCloseTillReply
  split
  · trivial
  · have closed := filed.setTill k (forcedTill_inRange (filed.tills k))
    exact closed.offer p (newJob_fits _ p (snapTill_fits (closed.tills k)) none)

include laws

theorem openTillReply_filed {float : Nat} (most : float ≤ 99999999) : (openTillReply p float s).Filed := by
  unfold openTillReply
  split
  · trivial
  · exact filed.setTill p (openedTill_inRange most laws.stamped)

/-- 05 R92 to R96: a payment of the amount of a ticket. -/
theorem payTicket_filed {n i amount : Nat} {t : Ticket} (found : s.findTicket n = some (i, t))
    (due : t.state = .settled ∨ t.state = .held) (most : amount ≤ 1999998000) (seller : Nat) (m : Method) :
    (s.payTicket p i t seller amount m).Filed := by
  obtain ⟨parts, range, number⟩ := laws.of_found filed found
  obtain ⟨pos, small⟩ := laws.step
  have figures := paymentFigures_inRange most pos small laws.stamped p m
  have paid := paidTicket_inRange range figures
  have charged : ({ s with
      tickets := s.tickets.set i (some (paidTicket t (paymentFigures p m amount s.limits.step s.stamp)))
      tills := s.tills.set p (chargeTill (s.till p) m amount s.limits.step)
      sellers := if m = Method.cash then chargeSeller (cashAmount amount s.limits.step) seller s.sellers else s.sellers
      day := chargeDay s.day m amount s.limits.step
      grand := chargeGrand s.grand (payableSum t.lines) amount
      grades := chargeGrades s.grades t.lines } : State).Filed :=
    { (filed.putTicket paid i).setTill p (chargeTill_inRange (filed.tills p) m amount s.limits.step) with
      day := chargeDay_inRange filed.day m amount s.limits.step }
  have names : NamesFit (chargeGrades s.grades t.lines) := laws.names.congr (chargeGrades_defn s.grades t.lines)
  exact charged.enqueue p (newJob_fits _ p (snapTicket_fits names (paidTicket_parts parts _ due) paid number) none)

theorem payReply_filed (r : PayReq) : (payReply p r s).Filed := by
  unfold payReply
  rcases found : s.findTicket r.ticket with _ | ⟨i, t⟩
  · trivial
  · dsimp only
    split
    · trivial
    · rename_i state
      iterate 4 (split; · trivial)
      obtain ⟨parts, -, -⟩ := laws.of_found filed found
      refine payTicket_filed laws filed p found (settled_or_held state) ?_ _ _
      cases settlement : t.settlement with
      | none => exact Nat.zero_le _
      | some x =>
        obtain ⟨-, -, -, amount⟩ := parts.figures_le settlement
        exact amount

theorem dayCloseReply_filed (r : Unit) : (dayCloseReply p r s).Filed := by
  unfold dayCloseReply
  split
  · trivial
  · split
    · trivial
    · have reported := filed.enqueue p (newJob_fits .dayReport p (snapDay_fits filed.day laws.stamped laws.names laws.few) none)
      exact { reported with
        day := clearedDay_inRange s.day laws.stamped
        tickets := fun t ht => by
          rw [show entries (s.closeDay p).tickets = _ from entries_filter _ s.tickets] at ht
          exact filed.tickets t (List.mem_of_mem_filter ht) }

/-! ### Requests on one ticket -/

theorem setPartyReply_filed {r : SetPartyReq} (vehicle : ∀ v ∈ r.vehicle, vehicleFits v)
    (seller : ∀ n ∈ r.seller, numberFits n) :
    (setPartyReply p r s).Filed := by
  unfold setPartyReply
  rcases found : s.findTicket r.ticket with _ | ⟨i, t⟩
  · trivial
  · obtain ⟨-, range, -⟩ := laws.of_found filed found
    dsimp only
    split
    · trivial
    · exact filed.putTicket (t := { t with vehicle := r.vehicle.or t.vehicle, seller := r.seller.or t.seller })
        { range with
          vehicle := fun v hv => (Option.or_eq_some_iff.mp hv).elim (vehicle v) fun other => range.vehicle v other.2
          seller := fun n hn => (Option.or_eq_some_iff.mp hn).elim (seller n) fun other => range.seller n other.2 } i

theorem voidTicketReply_filed (n : Nat) : (voidTicketReply p n s).Filed := by
  unfold voidTicketReply
  rcases found : s.findTicket n with _ | ⟨i, t⟩
  · trivial
  · obtain ⟨parts, range, number⟩ := laws.of_found filed found
    dsimp only
    split
    · trivial
    · rename_i due
      split
      · trivial
      · have void := voidedTicket_inRange range laws.stamped
        have counted : ({ s with tickets := s.tickets.set i (some (voidedTicket s.stamp t))
                                 day := { s.day with voided := satAdd s.day.voided 1 } } : State).Filed :=
          { filed.putTicket void i with day := { filed.day with voided := satAdd_le _ _ } }
        exact counted.offer p (newJob_fits _ p
          (snapTicket_fits laws.names (voidedTicket_parts parts s.stamp (not_or.mp due).1) void number) none)

theorem setDeductionReply_filed (r : SetDeductionReq) : (setDeductionReply p r s).Filed := by
  unfold setDeductionReply
  rcases found : s.findTicket r.ticket with _ | ⟨i, t⟩
  · trivial
  · obtain ⟨parts, range, number⟩ := laws.of_found filed found
    dsimp only
    split
    · trivial
    · split
      · trivial
      · rename_i state
        split
        · trivial
        · have again := resettleTicket_inRange range (r.line - 1) r.manual
          exact (filed.putTicket again i).offerSettleSlip laws.names
            (resettleTicket_parts parts (settled_or_held state) _ _) again number p

theorem applyTareReply_filed (r : ApplyTareReq) : (applyTareReply p r s).Filed := by
  unfold applyTareReply
  split
  · trivial
  · rename_i grade _
    rcases found : s.findTicket r.ticket with _ | ⟨i, t⟩
    · trivial
    · obtain ⟨parts, range, number⟩ := laws.of_found filed found
      dsimp only
      split
      · trivial
      · rename_i loaded
        split
        · trivial
        · rename_i unmarked
          split
          · trivial
          · rcases stored : s.findTare _ with _ | ⟨j, tare⟩
            · trivial
            · dsimp only
              iterate 2 (split; · trivial)
              split
              · trivial
              · rename_i lower
                obtain ⟨held, -, -⟩ := findEntry_some stored
                have closed : Revised s t _ := .closed tare grade r.manual (not_not.mp loaded) (by simpa using unmarked)
                  (mem_entries.mpr (List.mem_of_getElem? held)) (by omega)
                exact filed.closeTicket laws (range.append laws.stamped grade r.manual) number (closed.parts laws.yard parts) i p

theorem copyReply_filed (n : Nat) : (copyReply p n s).Filed := by
  unfold copyReply
  rcases found : s.findTicket n with _ | ⟨i, t⟩
  · trivial
  · obtain ⟨parts, range, number⟩ := laws.of_found filed found
    dsimp only
    split
    · trivial
    · exact filed.enqueue p (newJob_fits _ p (snapTicket_fits laws.names parts range number) _)

end Replies

end Sys2Proof.Machine
end

section
/-! PROOFS. Every event keeps the records that receipts are composed of in their ranges, and every rendering at 1 to 72 printed
lines (06 R110, R111, R115, R116, R124). -/

namespace Sys2Proof.Machine

/-! ### Captures (01 R14 to R16) -/

section Captures

variable {s : State} (laws : s.Lawful) (filed : s.Filed) (b : BridgeId)
include filed

theorem deliverStoreTare_filed (w : Nat) (vehicle : Text) : (s.deliverStoreTare b w vehicle).state.Filed := by
  unfold State.deliverStoreTare
  split
  · exact { filed with }
  · split
    · exact { filed with }
    · split
      · exact { filed with }
      · exact filed

include laws

theorem deliverGross_filed (w : Nat) {vehicle : Option Text} {seller : Option Nat}
    (parties : (WeighTask.gross vehicle seller).Fits) : (s.deliverGross b w vehicle seller).state.Filed := by
  unfold State.deliverGross
  split
  · exact filed
  · rename_i i _
    exact { filed.putTicket (opened_inRange laws.stamped parties s.newNumber w b) i with
      day := { filed.day with opened := satAdd_le _ _ } }

theorem deliver_filed (w : Int) {x : Weighing} (pending : (s.bridge b).weighing = some x) : (s.deliver b w x).state.Filed := by
  have unmarked {n i : Nat} {t : Ticket} (found : s.findTicket n = some (i, t)) :
      (s.putTicket i { t with pending := none }).Filed :=
    filed.putTicket (t := { t with pending := none }) { filed.tickets t (State.findTicket_mem found) with } i
  unfold State.deliver
  cases task : x.task with
  | gross vehicle seller =>
    dsimp only
    split
    · exact filed
    · exact deliverGross_filed laws filed b w.toNat (task ▸ filed.tasks b x pending)
  | drop n grade manual =>
    dsimp only
    split
    · exact filed
    · rename_i i t found
      split
      · exact unmarked found
      · obtain ⟨-, range, -⟩ := laws.of_found filed found
        exact filed.putTicket (range.append laws.stamped grade manual) i
  | tare n grade manual =>
    dsimp only
    split
    · exact filed
    · rename_i i t found
      split
      · exact unmarked found
      · rename_i refusal
        obtain ⟨parts, range, number⟩ := laws.of_found filed found
        obtain ⟨fits, lower⟩ := lowerRefusal_none refusal
        exact filed.closeTicket laws (range.append laws.stamped grade manual) number
          (closed_parts laws.yard pending parts task found fits lower) i x.console
  | storeTare vehicle =>
    dsimp only
    split
    · exact filed
    · exact deliverStoreTare_filed filed b w.toNat vehicle

theorem capture_filed {x : Weighing} (pending : (s.bridge b).weighing = some x) (raw : Int) : (s.capture b x raw).Filed :=
  ((deliver_filed laws filed b _ pending).setBridge fun _ (absent : none = some _) => nomatch absent).endFlight _ _ _

end Captures

/-! ### Samples and links (01 R3 to R8) -/

theorem State.Filed.setLink {s : State} (h : s.Filed) (b : BridgeId) (l : LinkState) : (s.setLink b l).Filed := by
  have moved {y : Bridge} (same : y.weighing = (s.bridge b).weighing) (r : ResultCode) :
      ((s.setBridge b y).failWeighing b r).Filed := (h.moveBridge same).failWeighing b r
  unfold State.setLink
  dsimp only
  split
  · refine moved ?_ .stale
    rfl
  · refine moved ?_ .scaleFault
    rfl
  · exact h.moveBridge rfl
  · exact h.moveBridge rfl
  · exact h.moveBridge rfl

theorem sample_good_filed {s : State} (laws : s.Lawful) (filed : s.Filed) (b : BridgeId) (raw : Int)
    (awake : s.inReset = false) : (s.sample b raw false).Filed := by
  by_cases skip : (s.bridge b).dividerCount + 1 < (s.bridge b).config.divider
  · rw [State.sample_uncounted skip]
    exact filed.moveBridge rfl
  · have counted : Quiet s (s.afterCount b raw) := Quiet.setBridge awake
      ((Bridge.sampled_attends (s.bridge b) raw).trans (Bridge.counted_attends raw rfl))
    have after : (s.afterCount b raw).Filed := filed.moveBridge rfl
    rw [State.sample_counted s b raw (Nat.not_lt.mp skip)]
    dsimp only
    split
    · rename_i x pending
      split
      · exact capture_filed (counted.lawful laws) after b (by rw [State.bridge_setBridge_self]; exact pending) raw
      · exact after
    · exact after

section Events

variable {s t : State} (filed : s.Filed)
include filed

theorem execBadSampleFrame_filed {b : BridgeId} (h : execBadSampleFrame b s = .next t) : t.Filed := by
  obtain rfl := Host.Outcome.next.inj h
  split
  · exact filed
  · exact filed.moveBridge rfl

theorem execStaleTimerExpiry_filed {b : BridgeId} (h : execStaleTimerExpiry b s = .next t) : t.Filed := by
  obtain rfl := Host.Outcome.next.inj h
  split
  · have stopped : (s.setBridge b { s.bridge b with staleTimer := none }).Filed := filed.moveBridge rfl
    exact stopped.setLink b .down
  · exact filed

theorem execMotionDeadline_filed {b : BridgeId} (h : execMotionDeadline b s = .next t) : t.Filed := by
  obtain rfl := Host.Outcome.next.inj h
  split
  · exact filed
  · exact filed.failWeighing b _

theorem execBeamEvent_filed {b : BridgeId} {e : BeamEnd} {high : Bool} (h : execBeamEvent b e high s = .next t) : t.Filed := by
  obtain rfl := Host.Outcome.next.inj h
  split
  · exact filed
  · exact filed.moveBridge (Bridge.beamChange_attends _ e _).weighing

theorem execSampleEvent_filed (laws : s.Lawful) {b : BridgeId} {raw : BitVec 24} {status : Byte}
    (h : execSampleEvent b raw status s = .next t) : t.Filed := by
  obtain rfl := Host.Outcome.next.inj h
  split
  · exact filed
  · rename_i awake
    cases status.getLsbD 0 with
    | false => exact sample_good_filed laws filed b raw.toInt (by simpa using awake)
    | true =>
      have faulty : (s.setBridge b { s.bridge b with latest := some ⟨raw.toInt, true⟩
                                                     staleTimer := some (s.bridge b).config.staleTimeout
                                                     rx := .hunting }).Filed := filed.moveBridge rfl
      exact faulty.setLink b .fault

theorem execIndicatorReceivedByte_filed (laws : s.Lawful) {b : BridgeId} {x : Byte}
    (h : execIndicatorReceivedByte b x s = .next t) : t.Filed := by
  unfold execIndicatorReceivedByte at h
  split at h
  · obtain rfl := Host.Outcome.next.inj h
    exact filed
  · split at h
    · obtain rfl := Host.Outcome.next.inj h
      split
      · exact filed.moveBridge rfl
      · exact filed
    · split at h
      · split at h
        · exact execSampleEvent_filed filed laws h
        · exact execBadSampleFrame_filed filed h
      · obtain rfl := Host.Outcome.next.inj h
        exact filed.moveBridge rfl

end Events

/-! ### Printer ports (07 R129 to R141) -/

/-- 06 R115: the rendering of a fitting job under a serial in its range. -/
theorem renderFor_printed {s : State} (laws : s.Lawful) (p : Port) {serial : Nat} (range : serial ≤ 99999999) {job : Job}
    (fits : job.snapshot.Fits) : Printed (s.renderFor p serial job) := by
  obtain ⟨length, cells⟩ := laws.header
  obtain ⟨few, lines⟩ := receipt_rows (laws.paper p) length cells laws.stamped range fits
  exact ⟨receipt_length_pos _ _ _ _ _, few, fun l hl => printedLine_mono (wide_of_width (laws.paper p)).2 (lines l hl)⟩

/-- 07 R134, R141: a list begun on a port. -/
theorem beginList_filed {x : Printer} (jobs : ∀ j ∈ x.queue, j.Fits) {lines : List Text} (printed : Printed lines) :
    (x.beginList lines).Filed := ⟨jobs, fun _ hl => Option.some.inj hl ▸ printed⟩

/-- 07 R141: a job begun again from line 0. -/
def Job.restarted (j : Job) : Job := { j with restarts := nextRestart j.restarts, nextLine := some 0, state := .printing }

section Printers

variable {s t : State} (laws : s.Lawful) (filed : s.Filed) (p : Port)
include filed

theorem completeJob_filed (job : Job) : (s.completeJob p job).Filed := by
  have readied : (s.setPrinter p { (s.printer p).ready with queue := (s.printer p).queue.drop 1, rendered := none }).Filed :=
    filed.setPrinter p ⟨(filed.printers p).drop.jobs, fun _ hl => nomatch hl⟩
  unfold State.completeJob
  dsimp only
  split
  · exact readied
  · rename_i serial _
    have ended := readied.endReceipt p serial .complete
    unfold State.recordCompletion
    split
    · exact ended
    · split
      · exact ended
      · rename_i found
        exact ended.putTicket (recordSerial_inRange (ended.tickets _ (State.findTicket_mem found)) job.kind serial) _

theorem acknowledge_filed (job : Job) (lines : List Text) : (s.acknowledge p job lines).Filed := by
  have moved (i : Nat) :
      (({ s.printer p with state := .printing } : Printer).setHead fun j => { j with nextLine := some i }).Filed :=
    Printer.Filed.setHead (x := { s.printer p with state := .printing }) { filed.printers p with } (fun _ => rfl) fun _ => rfl
  unfold State.acknowledge
  dsimp only
  split
  · split
    · exact filed.setPrinter p { moved _ with }
    · exact filed.setPrinter p { moved _ with }
  · exact completeJob_filed filed p job

theorem execStatusDone_filed (h : execStatusDone p s = .next t) : t.Filed := by
  obtain rfl := Host.Outcome.next.inj h
  split
  · split
    · exact acknowledge_filed filed p _ _
    · exact filed
  · exact filed

theorem execStatusBusy_filed (h : execStatusBusy p s = .next t) : t.Filed := by
  obtain rfl := Host.Outcome.next.inj h
  split
  · exact filed.movePrinter rfl rfl
  · exact filed

theorem execFaultByte_filed {r : FaultReason} (h : execFaultByte p r s = .next t) : t.Filed := by
  obtain rfl := Host.Outcome.next.inj h
  split
  · exact filed
  · split
    · exact filed.setPrinter p { (filed.printers p).pauseHead with }
    · exact filed.movePrinter rfl rfl

theorem execLineTimerExpiry_filed (h : execLineTimerExpiry p s = .next t) : t.Filed := by
  obtain rfl := Host.Outcome.next.inj h
  split
  · exact filed
  · cases (s.printer p).state with
    | unknown => exact filed.movePrinter rfl rfl
    | offline => exact filed.movePrinter rfl rfl
    | faulted => exact filed.movePrinter rfl rfl
    | printing => exact filed.movePrinter rfl rfl
    | late => exact filed.setPrinter p { (filed.printers p).pauseHead with }
    | absent => exact filed
    | ready => exact filed

include laws

/-- 07 R134: the head job started under the next serial. -/
theorem startJob_filed {job : Job} {rest : List Job} (head : (s.printer p).queue = job :: rest)
    (range : s.serialCounter ≤ 99999999) : (s.startJob p job).Filed := by
  have jobs := (filed.printers p).jobs
  obtain ⟨fits, -⟩ := jobs job (by rw [head]; exact List.mem_cons_self)
  have started := setHead_jobs jobs
    (f := fun j => { j with state := .printing, serial := some s.serialCounter, nextLine := some 0 })
    fun j hj => ⟨(jobs j hj).1, fun n hn => Option.some.inj hn ▸ range⟩
  exact { filed.setPrinter p (beginList_filed started (renderFor_printed laws p range fits)) with }

/-- 07 R141: the head job begun again under its own serial. -/
theorem restartJob_filed {job : Job} {rest : List Job} (head : (s.printer p).queue = job :: rest) :
    (s.restartJob p job).Filed := by
  have jobs := (filed.printers p).jobs
  obtain ⟨fits, range⟩ := jobs job (by rw [head]; exact List.mem_cons_self)
  unfold State.restartJob
  split
  · exact filed
  · rename_i serial carried
    have again := setHead_jobs jobs (f := fun _ => job.restarted) fun _ _ => ⟨fits, range⟩
    have printed := renderFor_printed laws p (range serial carried) (job := job.restarted) fits
    exact { filed.setPrinter p (beginList_filed again printed) with }

theorem readyOrRestart_filed : (s.readyOrRestart p).Filed := by
  unfold State.readyOrRestart
  split
  · split
    · exact restartJob_filed laws filed p ‹_›
    · exact filed.movePrinter rfl rfl
  · exact filed.movePrinter rfl rfl

theorem restartLate_filed : (s.restartLate p).Filed := by
  unfold State.restartLate
  split
  · exact restartJob_filed laws filed p ‹_›
  · exact filed

theorem execStatusReady_filed (h : execStatusReady p s = .next t) : t.Filed := by
  obtain rfl := Host.Outcome.next.inj h
  split
  · exact filed
  · cases (s.printer p).state with
    | unknown => exact filed.movePrinter rfl rfl
    | offline => exact readyOrRestart_filed laws filed p
    | faulted => exact readyOrRestart_filed laws filed p
    | late => exact restartLate_filed laws filed p
    | absent => exact filed
    | ready => exact filed
    | printing => exact filed

theorem execJobStart_filed (range : s.serialCounter ≤ 99999999) (h : execJobStart p s = .next t) : t.Filed := by
  obtain rfl := Host.Outcome.next.inj h
  split
  · split
    · exact startJob_filed laws filed p ‹_› range
    · exact filed
  · exact filed

end Printers

/-! ### Resets (11 R202 to R204) -/

section Resets

variable {s : State} (filed : s.Filed)
include filed

theorem State.Filed.assertBy (cause : ResetCause) : (s.assertBy cause).Filed := by
  cases cause
  · exact { filed with }
  · exact { filed with }

theorem clearMarks_inRange : ∀ t ∈ entries (clearMarks s.tickets), t.InRange := by
  intro t ht
  rw [clearMarks, entries_map] at ht
  obtain ⟨u, hu, rfl⟩ := List.mem_map.mp ht
  exact { filed.tickets u hu with }

theorem State.Filed.loseMain : s.loseMain.Filed :=
  { filed with
    tickets := clearMarks_inRange filed
    tasks := fun b x pending => by
      rw [State.bridge, State.loseMain, Pair.get_ofFn] at pending
      contradiction
    printers := fun p => by
      rw [State.printer, State.loseMain, Four.get_ofFn]
      exact ⟨fun _ hj => (nomatch hj), fun _ hl => (nomatch hl)⟩ }

theorem State.Filed.interrupt (p : Port) : (s.interrupt p).Filed := by
  unfold State.interrupt
  split
  · exact filed
  · exact filed.endReceipt p _ _

theorem State.Filed.release (pins : ReleasePins) : (s.release pins).Filed := by
  have interrupted := (((filed.interrupt 0).interrupt 1).interrupt 2).interrupt 3
  exact { interrupted with
    tickets := clearMarks_inRange interrupted
    tasks := fun b x pending => by
      rw [State.bridge, State.release, Pair.get_ofFn] at pending
      contradiction
    printers := fun p => by
      rw [State.printer, State.release, Four.get_ofFn]
      unfold releasedPrinter
      split <;> exact ⟨fun _ hj => (nomatch hj), fun _ hl => (nomatch hl)⟩ }

theorem State.Filed.backupDefaults : s.backupDefaults.Filed where
  tickets t ht := by
    rw [backupDefaults_entries] at ht
    contradiction
  tasks b x pending := by
    rw [State.bridge, State.backupDefaults, Pair.get_ofFn] at pending
    exact filed.tasks b x pending
  tills p := by fin_cases p <;> exact closedTill_inRange
  day := firstDay_inRange
  printers p := by
    rw [State.printer, State.backupDefaults, Four.get_ofFn]
    exact { filed.printers p with }

theorem execMainReset_filed {t : State} {cause : ResetCause} (h : execMainReset cause s = .next t) : t.Filed := by
  obtain rfl := Host.Outcome.next.inj h
  split
  · exact filed.assertBy cause
  · exact filed.loseMain.assertBy cause

theorem execMainResetRelease_filed {t : State} {pins : ReleasePins} (h : execMainResetRelease pins s = .next t) : t.Filed := by
  obtain rfl := Host.Outcome.next.inj h
  split
  · exact filed.release pins
  · exact filed

theorem execBackupPowerOnReset_filed {t : State} (h : execBackupPowerOnReset s = .next t) : t.Filed := by
  obtain rfl := Host.Outcome.next.inj h
  split
  · exact (filed.assertBy .vcore).backupDefaults
  · exact (filed.loseMain.assertBy .vcore).backupDefaults

end Resets

/-! ### Every command -/

section Commands

variable {s t : State} (laws : s.Lawful) (filed : s.Filed)

include filed in
theorem takeFrame_answer_filed (p : Port) (a : Answer) : (takeFrame p s fun u => u.answer p a).Filed :=
  takeFrame_keeps (P := State.Filed) filed (fun _ => filed.setConsole p _) fun _ _ => (filed.setConsole p _).setConsole p _

include laws filed

theorem exec_filed_unless_byte {c : Instr} (range : s.serialCounter ≤ 99999999)
    (notByte : ∀ p b, c ≠ .consoleReceivedByte p b)
    (h : exec c s = .next t) : t.Filed := by
  cases c with
  | abort p f => exact takeRequest_filed h laws filed fun r u _ _ ok => abortReply_filed ok p r
  | queryStatus p f => exact takeRequest_filed h laws filed fun _ _ _ _ ok => ok
  | openTicket p f =>
    exact takeRequest_filed h laws filed fun r u decoded _ ok => openTicketReply_filed ok p (openTicket_decoded decoded)
  | weighDrop p f => exact takeRequest_filed h laws filed fun r u _ _ ok => weighReply_filed ok p true r
  | weighTare p f => exact takeRequest_filed h laws filed fun r u _ _ ok => weighReply_filed ok p false r
  | storeTare p f => exact takeRequest_filed h laws filed fun r u _ _ ok => storeTareReply_filed ok p r
  | applyStoredTare p f => exact takeRequest_filed h laws filed fun r u _ law ok => applyTareReply_filed law ok p r
  | zero p f => exact takeRequest_filed h laws filed fun r u _ _ ok => zeroReply_filed ok p r
  | setDeduction p f => exact takeRequest_filed h laws filed fun r u _ law ok => setDeductionReply_filed law ok p r
  | setParty p f =>
    exact takeRequest_filed h laws filed fun r u decoded law ok =>
      have ⟨vehicle, seller⟩ := setParty_decoded decoded
      setPartyReply_filed law ok p vehicle seller
  | openTill p f =>
    exact takeRequest_filed h laws filed fun r u decoded law ok => openTillReply_filed law ok p (openTill_decoded decoded)
  | loadCash p f => exact takeRequest_filed h laws filed fun r u _ _ ok => loadCashReply_filed ok p r
  | closeTill p f =>
    exact takeRequest_filed h laws filed fun r u decoded _ ok => closeTillReply_filed ok p (closeTill_decoded decoded)
  | pay p f => exact takeRequest_filed h laws filed fun r u _ law ok => payReply_filed law ok p r
  | forceCloseTill p f => exact takeRequest_filed h laws filed fun r u _ _ ok => forceCloseTillReply_filed ok p r
  | setPayoutLimits p f => exact takeRequest_filed h laws filed fun _ _ _ _ ok => { ok with }
  | setGrade p f => exact takeRequest_filed h laws filed fun r u _ _ ok => setGradeReply_filed ok p r
  | removeGrade p f => exact takeRequest_filed h laws filed fun r u _ _ ok => removeGradeReply_filed ok p r
  | deleteTare p f => exact takeRequest_filed h laws filed fun r u _ _ ok => deleteTareReply_filed ok p r
  | setTareValidity p f => exact takeRequest_filed h laws filed fun _ _ _ _ ok => { ok with }
  | setBridge p f => exact takeRequest_filed h laws filed fun r u _ _ ok => setBridgeReply_filed ok p r
  | setHeaderLine p f => exact takeRequest_filed h laws filed fun _ _ _ _ ok => { ok with }
  | setHeaderCell p f => exact takeRequest_filed h laws filed fun _ _ _ _ ok => { ok with }
  | setPrinter p f => exact takeRequest_filed h laws filed fun r u _ _ ok => setPrinterReply_filed ok p r
  | setClock p f => exact takeRequest_filed h laws filed fun r u _ _ ok => setClockReply_filed ok p r
  | alignMinute p f => exact takeRequest_filed h laws filed fun r u _ _ ok => alignMinuteReply_filed ok p r
  | voidTicket p f => exact takeRequest_filed h laws filed fun r u _ law ok => voidTicketReply_filed law ok p r
  | dayClose p f => exact takeRequest_filed h laws filed fun r u _ law ok => dayCloseReply_filed law ok p r
  | copy p f => exact takeRequest_filed h laws filed fun r u _ law ok => copyReply_filed law ok p r
  | discardJob p f => exact takeRequest_filed h laws filed fun r u _ _ ok => discardJobReply_filed ok p r
  | queryTicket p f => exact takeRequest_filed h laws filed fun r u _ _ ok => queryTicketReply_filed ok p r
  | listTickets p f => exact takeRequest_filed h laws filed fun _ _ _ _ ok => ok
  | queryBridge p f => exact takeRequest_filed h laws filed fun _ _ _ _ ok => ok
  | queryGrade p f => exact takeRequest_filed h laws filed fun r u _ _ ok => queryGradeReply_filed ok p r
  | queryTare p f => exact takeRequest_filed h laws filed fun r u _ _ ok => queryTareReply_filed ok p r
  | queryTill p f => exact takeRequest_filed h laws filed fun _ _ _ _ ok => ok
  | queryPrinter p f => exact takeRequest_filed h laws filed fun _ _ _ _ ok => ok
  | queryJournal p f => exact takeRequest_filed h laws filed fun r u _ _ ok => queryJournalReply_filed ok p r
  | queryTotals p f => exact takeRequest_filed h laws filed fun r u _ _ ok => queryTotalsReply_filed ok p r
  | badFrame p cls => exact Host.Outcome.next.inj h ▸ takeFrame_answer_filed filed p _
  | badClass p cls => exact Host.Outcome.next.inj h ▸ takeFrame_answer_filed filed p _
  | interByteTimeout p =>
    obtain rfl := Host.Outcome.next.inj h
    split
    · exact filed.setConsole p _
    · exact filed
  | breakCondition p =>
    obtain rfl := Host.Outcome.next.inj h
    split
    · exact filed.setConsole p _
    · exact filed
  | answerTransmitted p =>
    obtain rfl := Host.Outcome.next.inj h
    split
    · exact filed
    · exact filed.setConsole p _
  | sampleEvent b raw status => exact execSampleEvent_filed filed laws h
  | badSampleFrame b => exact execBadSampleFrame_filed filed h
  | sampleGapTimeout b => exact execBadSampleFrame_filed filed h
  | staleTimerExpiry b => exact execStaleTimerExpiry_filed filed h
  | beamEvent b e high => exact execBeamEvent_filed filed h
  | motionDeadline b => exact execMotionDeadline_filed filed h
  | statusReady p => exact execStatusReady_filed laws filed p h
  | statusDone p => exact execStatusDone_filed filed p h
  | statusBusy p => exact execStatusBusy_filed filed p h
  | faultByte p r => exact execFaultByte_filed filed p h
  | lineTimerExpiry p => exact execLineTimerExpiry_filed filed p h
  | jobStart p => exact execJobStart_filed laws filed p range h
  | secondBoundary => exact Host.Outcome.next.inj h ▸ { filed with }
  | mainReset cause => exact execMainReset_filed filed h
  | mainResetRelease pins => exact execMainResetRelease_filed filed h
  | backupPowerOnReset => exact execBackupPowerOnReset_filed filed h
  | consoleReceivedByte p b => exact absurd rfl (notByte p b)
  | indicatorReceivedByte b x => exact execIndicatorReceivedByte_filed filed laws h

theorem exec_filed {c : Instr} (range : s.serialCounter ≤ 99999999) (h : exec c s = .next t) : t.Filed := by
  by_cases byte : ∃ p b, c = .consoleReceivedByte p b
  · obtain ⟨p, b, rfl⟩ := byte
    rcases execConsoleReceivedByte_cases h with ⟨x, rfl⟩ | ⟨d, frame, runs⟩
    · exact filed.setConsole p x
    · exact exec_filed_unless_byte laws filed range (fun q x is => by rw [is] at frame; contradiction) runs
  · exact exec_filed_unless_byte laws filed range (fun p b is => byte ⟨p, b, is⟩) h

theorem step_filed (range : s.serialCounter ≤ 99999999) (h : step s = .next t) : t.Filed := by
  unfold step at h
  split at h
  · exact Host.Outcome.next.inj h ▸ filed
  · rename_i c rest _
    have quiet : Quiet s { s with pending := rest } := {}
    exact exec_filed (quiet.lawful laws) { filed with } range h

end Commands

/-- Settles O38: each line form is printed, so each rendering is; and every command keeps the records that it is composed of. -/
theorem renderedReceiptsFitThePaper : Obligations.RenderedReceiptsFitThePaper := by
  refine ⟨fun w header now serial job width length cells time range fits => ?rendering,
    fun s t receipts tickets grades tables settings clock numbers claims tares journal h => ?kept⟩
  case rendering =>
    obtain ⟨few, lines⟩ := receipt_rows width length cells time range fits
    exact ⟨receipt_length_pos w header now serial job, few, lines⟩
  case kept =>
    have laws := lawful_of_sound tickets grades tables settings clock numbers claims tares
    exact (t.receiptsFit_iff).mpr (step_filed laws ((s.receiptsFit_iff).mp receipts) journal.2.2.2 h)

end Sys2Proof.Machine
end

section
/-! PROOFS. The header writes and COPY (06 R113, R114, R125, R126, 02 R35). -/

namespace Sys2Proof.Machine

/-! ### Cells of the header store (06 R113, R114) -/

/-- 06 R113: a character as its code range says it is stored. -/
theorem storedChar_eq (c : Byte) : storedChar c = if 0x20 ≤ c.toNat ∧ c.toNat ≤ 0x7E then c else 0x3F#8 := by
  simp [storedChar, Decode.printable]

/-- 06 R113: the 48 cells of a text, cell by cell. -/
theorem headerCellsOf_eq (t : Text) :
    headerCellsOf t = (List.range 48).map fun k => ((t[k]?).map storedChar).getD 0x20#8 := by
  refine List.ext_getElem? fun k => ?_
  have cells : (headerCellsOf t).length = 48 := (headerCellsOf_fits t).1
  rw [List.getElem?_map]
  by_cases within : k < 48
  · rw [List.getElem?_range within, Option.map_some, headerCellsOf, List.getElem?_append]
    simp only [List.length_map, List.length_take, List.getElem?_map, List.getElem?_take, List.getElem?_replicate,
      Config.headerCells]
    by_cases held : k < t.length
    · rw [if_pos (by omega), if_pos within, List.getElem?_eq_getElem held]
      rfl
    · rw [if_neg (by omega), if_pos (by omega), List.getElem?_eq_none (by omega)]
      rfl
  · rw [List.getElem?_eq_none (by omega), List.getElem?_eq_none (by simpa using within), Option.map_none]

/-- 06 R113: the characters of a text that the store replaces. -/
theorem countP_unprintable (t : Text) : (t.countP fun b => !Decode.printable b) =
    (t.filter fun c : Byte => decide (c.toNat < 0x20 ∨ 0x7E < c.toNat)).length := by
  rw [List.countP_eq_length_filter]
  congr 2
  funext c
  rw [Bool.eq_iff_iff]
  simp only [Decode.printable, Bool.not_eq_true', decide_eq_false_iff_not, decide_eq_true_eq]
  omega

/-! ### COPY (06 R125, R126) -/

/-- 06 R125: COPY of a ticket on a port with room for its job. -/
theorem copyReply_done {p : Port} {n i : Nat} {t : Ticket} {s : State} (found : s.findTicket n = some (i, t))
    (room : s.room p = true) : copyReply p n s = .done
      (copyFields n t ((s.printer p).queue.length + 1)) (s.withJob p .copy (s.snapTicket t) (copyOfSerial t)) := by
  have accepted : s.queueRefusal p = none := by
    rw [State.queueRefusal_none]
    simpa [State.room] using room
  have position : (s.enqueue p (newJob .copy p (s.snapTicket t) (copyOfSerial t))).queuePosition p
      = (s.printer p).queue.length + 1 := by
    simp [State.queuePosition, State.enqueue]
  simp only [copyReply, found, accepted, position]
  rfl

/-- 06 R126: the copy-of serial, by the state of the ticket. -/
theorem copyOfSerial_eq (t : Ticket) : copyOfSerial t = match t.state with
    | .loaded => none
    | .paid => t.payment.bind (·.receiptSerial)
    | .settled | .held | .void => t.settlement.bind (·.slipSerial) := by
  unfold copyOfSerial
  cases t.state <;> rfl

/-- 02 R35: the bridge a COPY reports. -/
theorem copyPending_eq (t : Ticket) : copyPending t = match t.pending with
    | some b => [BitVec.ofNat 8 b.val]
    | none => [] := by
  unfold copyPending
  cases t.pending <;> rfl

/-- 06 R125, R126, 02 R35: COPY taken, by the serial and the bridge it reports. -/
theorem execCopy_done {p : Port} {fields bridge : List Byte} {n i : Nat} {t : Ticket} {serial : Option Nat} {s : State}
    (decoded : Decode.ticketOnly fields = some n) (ready : s.Ready p) (found : s.findTicket n = some (i, t))
    (room : s.room p = true) (copied : copyOfSerial t = serial) (pending : copyPending t = bridge) :
    execCopy p fields s = .next ((s.withJob p .copy (s.snapTicket t) serial).answered p 0x40 .done
      (Wire.num 3 n ++ Wire.ticketState t.state ++ Wire.optNum 4 serial ++ s.nextPosition p ++ bridge)) := by
  subst copied pending
  exact takeRequest_done (u := s.withJob p .copy (s.snapTicket t) (copyOfSerial t)) ready (State.ReadyAs.anyRole ready) decoded
    (copyReply_done (s := s.idleReceiver p) found room)

/-- Settles O37: each write replaces its cells, and COPY queues its job; no reply meets the console's receiver. -/
theorem headerWritesAndCopies : Obligations.HeaderWritesAndCopies := by
  intro p fields s
  refine ⟨fun r decoded ready => ?line, fun r l decoded ready here => ?cell, fun n i t decoded ready found room => ?copied⟩
  case line =>
    refine (takeRequest_done (u := { s with header := s.header.set r.line (headerCellsOf r.text) }) ready rfl decoded
      rfl).trans ?_
    simp only [← storedChar_eq]
    have cells : (headerCellsOf r.text).length = 48 := (headerCellsOf_fits r.text).1
    rw [← headerCellsOf_eq, countP_unprintable, Wire.text, cells]
    simp only [List.append_assoc, List.singleton_append]
    rfl
  case cell =>
    have written : s.header.modify r.line (fun l => l.set r.column (storedChar r.char))
        = s.header.set r.line (l.set r.column (storedChar r.char)) := by
      rw [List.modify_eq_set_getElem?, here]
      rfl
    simp only [← storedChar_eq]
    rw [← written]
    exact takeRequest_done (u := { s with header := s.header.modify r.line fun l => l.set r.column (storedChar r.char) })
      ready rfl decoded rfl
  case copied => exact execCopy_done decoded ready found room (copyOfSerial_eq t) (copyPending_eq t)

end Sys2Proof.Machine
end

section
/-! PROOFS. The laws of a print queue and of a printer port (07 R127, R131, R135), and what each event of a port makes of
them. -/

namespace Sys2Proof.Machine

/-! ### The laws, part by part -/

theorem Job.waiting_iff (j : Job) :
    j.waiting = true ↔ j.state = .queued ∧ j.serial = none ∧ j.nextLine = none ∧ j.restarts = 0 := by
  simp [Job.waiting, and_assoc]

/-- 07 R131: a queue of port `p`: at most eight jobs, its own, and only the head started. -/
structure Queued (p : Port) (q : List Job) : Prop where
  few : q.length ≤ 8
  owned : ∀ j ∈ q, j.origin = p ∧ j.restarts ≤ 255
  waiting : ∀ j ∈ q.drop 1, j.waiting = true

/-- 07 R127, R131, R135: how far a port has come with the job at its head, by the state of the port, the head and the
rendering. -/
inductive Stage : PortState → Option Job → Option (List Text) → Prop where
  | unstarted {st : PortState} {head : Option Job} : (∀ j ∈ head, j.waiting = true) → st ≠ .printing → st ≠ .late →
      Stage st head none
  | printing {st : PortState} {j : Job} {n i : Nat} {lines : List Text} : j.state = .printing → j.serial = some n →
      j.nextLine = some i → i ≤ lines.length → 1 ≤ lines.length → st = .printing ∨ st = .late →
      Stage st (some j) (some lines)
  | paused {st : PortState} {j : Job} {n i : Nat} : j.state = .paused → j.serial = some n → j.nextLine = some i →
      st = .offline ∨ st = .faulted → Stage st (some j) none

/-- `Printer.Sound`, part by part. -/
structure Printer.Lawful (p : Port) (x : Printer) : Prop where
  queued : Queued p x.queue
  faulty : x.fault.isSome = true ↔ x.state = .faulted
  stage : Stage x.state x.queue.head? x.rendered
  missing : x.present = false → x.state = .absent ∧ x.queue = []
  here : x.present = true → x.state ≠ .absent

/-- The clause of `Printer.Sound` on the head of the queue. -/
theorem stage_iff (st : PortState) (head : Option Job) (rendered : Option (List Text)) :
    (match head with
      | none => st != .printing && st != .late && rendered.isNone
      | some j =>
        match j.state with
        | .queued => j.waiting && st != .printing && st != .late && rendered.isNone
        | .printing =>
          j.serial.isSome && (st == .printing || st == .late)
            && rendered.any (fun lines => decide (1 ≤ lines.length) && j.nextLine.any (fun i => decide (i ≤ lines.length)))
        | .paused => j.serial.isSome && j.nextLine.isSome && (st == .offline || st == .faulted) && rendered.isNone) = true
      ↔ Stage st head rendered := by
  constructor
  · intro h
    cases head with
    | none =>
      simp only [Bool.and_eq_true, bne_iff_ne, Option.isNone_iff_eq_none] at h
      obtain ⟨⟨printing, late⟩, rfl⟩ := h
      exact .unstarted (fun _ hj => nomatch hj) printing late
    | some j =>
      cases state : j.state with
      | queued =>
        simp only [state, Bool.and_eq_true, bne_iff_ne, Option.isNone_iff_eq_none] at h
        obtain ⟨⟨⟨waiting, printing⟩, late⟩, rfl⟩ := h
        exact .unstarted (fun _ hj => Option.some.inj hj ▸ waiting) printing late
      | printing =>
        simp only [state, Bool.and_eq_true, Bool.or_eq_true, beq_iff_eq, Option.isSome_iff_exists, Option.any_eq_true,
          decide_eq_true_eq] at h
        obtain ⟨⟨⟨n, serial⟩, st⟩, lines, rfl, long, i, next, most⟩ := h
        exact .printing state serial next most long st
      | paused =>
        simp only [state, Bool.and_eq_true, Bool.or_eq_true, beq_iff_eq, Option.isSome_iff_exists,
          Option.isNone_iff_eq_none] at h
        obtain ⟨⟨⟨⟨n, serial⟩, i, next⟩, st⟩, rfl⟩ := h
        exact .paused state serial next st
  · intro h
    cases h with
    | unstarted waiting printing late =>
      cases head with
      | none => simp [printing, late]
      | some j =>
        have waits := waiting j rfl
        obtain ⟨state, -⟩ := (j.waiting_iff).mp waits
        simp [state, waits, printing, late]
    | printing state serial next most long st => simp [state, serial, next, most, long, st]
    | paused state serial next st => simp [state, serial, next, st]

theorem Printer.sound_iff (p : Port) (x : Printer) : x.Sound p = true ↔ x.Lawful p := by
  simp only [Printer.Sound, Bool.and_eq_true, Bool.or_eq_true, decide_eq_true_eq, List.all_eq_true, beq_iff_eq, bne_iff_ne,
    Bool.not_eq_true', List.isEmpty_iff]
  constructor
  · rintro ⟨⟨⟨⟨⟨⟨few, owned⟩, waiting⟩, faulty⟩, stage⟩, missing⟩, here⟩
    exact ⟨⟨few, owned, waiting⟩, by rw [faulty, beq_iff_eq], (stage_iff _ _ _).mp stage,
      fun absent => missing.resolve_left (by simp [absent]),
      fun present => here.resolve_left (by simp [present])⟩
  · rintro ⟨⟨few, owned, waiting⟩, faulty, stage, missing, here⟩
    refine ⟨⟨⟨⟨⟨⟨few, owned⟩, waiting⟩, ?_⟩, (stage_iff _ _ _).mpr stage⟩, ?_⟩, ?_⟩
    · rw [Bool.eq_iff_iff, beq_iff_eq]
      exact faulty
    · cases present : x.present with
      | true => exact .inl rfl
      | false => exact .inr (missing present)
    · cases present : x.present with
      | true => exact .inr (here present)
      | false => exact .inl rfl

end Sys2Proof.Machine
end

section
/-! PROOFS. What each event of a printer port makes of the port (07 R129 to R142): a lawful port with a running timer becomes
another, whose head carries a known serial. -/

namespace Sys2Proof.Machine

/-! ### Queues -/

theorem Queued.nil (p : Port) : Queued p [] := ⟨Nat.zero_le _, fun _ hj => (nomatch hj), fun _ hj => (nomatch hj)⟩

theorem Queued.tail {p : Port} {j : Job} {rest : List Job} (h : Queued p (j :: rest)) : Queued p rest where
  few := Nat.le_of_succ_le h.few
  owned k hk := h.owned k (List.mem_cons_of_mem j hk)
  waiting k hk := h.waiting k (List.mem_of_mem_drop hk)

/-- A head changed by what starts, moves or pauses it. -/
theorem Queued.head {p : Port} {j k : Job} {rest : List Job} (h : Queued p (j :: rest)) (origin : k.origin = j.origin)
    (restarts : k.restarts ≤ 255) : Queued p (k :: rest) where
  few := h.few
  owned i hi := by
    rcases List.mem_cons.mp hi with rfl | old
    · exact ⟨origin.trans (h.owned j List.mem_cons_self).1, restarts⟩
    · exact h.owned i (List.mem_cons_of_mem j old)
  waiting := h.waiting

theorem Queued.append {p : Port} {q : List Job} {k : Job} (h : Queued p q) (room : q.length < 8) (origin : k.origin = p)
    (waits : k.waiting = true) : Queued p (q ++ [k]) where
  few := by
    rw [List.length_append]
    exact room
  owned i hi := by
    rcases List.mem_append.mp hi with old | new
    · exact h.owned i old
    · obtain rfl := List.mem_singleton.mp new
      obtain ⟨-, -, -, restarts⟩ := (i.waiting_iff).mp waits
      exact ⟨origin, by omega⟩
  waiting i hi := by
    rcases List.mem_append.mp (List.drop_append ▸ hi) with old | new
    · exact h.waiting i old
    · obtain rfl := List.mem_singleton.mp (List.mem_of_mem_drop new)
      exact waits

/-- 07 R131: behind the head no job is started. -/
theorem Queued.next {p : Port} {j : Job} {rest : List Job} (h : Queued p (j :: rest)) : ∀ k ∈ rest.head?, k.waiting = true :=
  fun k hk => h.waiting k (List.mem_of_head? hk)

/-- A head that is not started, or none, carries no serial. -/
theorem serial_of_unstarted {head : Option Job} (h : ∀ j ∈ head, j.waiting = true) : head.bind (·.serial) = none := by
  cases head with
  | none => rfl
  | some j =>
    obtain ⟨-, serial, -⟩ := (j.waiting_iff).mp (h j rfl)
    exact serial

/-! ### Stages -/

theorem Printer.inJob_iff (x : Printer) : x.inJob = true ↔ x.state = .printing ∨ x.state = .late := by
  simp [Printer.inJob]

theorem Stage.empty {st : PortState} (printing : st ≠ .printing) (late : st ≠ .late) : Stage st none none :=
  .unstarted (fun _ hj => nomatch hj) printing late

theorem Printer.inJob_states {x : Printer} (h : x.inJob = true) :
    x.state ≠ .ready ∧ x.state ≠ .absent ∧ x.state ≠ .faulted := by
  rcases (x.inJob_iff).mp h with state | state <;> simp [state]

/-- In PRINTING and LATE the head is in progress. -/
theorem Stage.inJob {st : PortState} {head : Option Job} {rendered : Option (List Text)} (h : Stage st head rendered)
    (busy : st = .printing ∨ st = .late) :
    ∃ j n i lines, head = some j ∧ rendered = some lines ∧ j.state = .printing ∧ j.serial = some n ∧ j.nextLine = some i
      ∧ i ≤ lines.length ∧ 1 ≤ lines.length := by
  cases h with
  | unstarted _ printing late => exact (busy.elim printing late).elim
  | printing state serial next most long _ => exact ⟨_, _, _, _, rfl, rfl, state, serial, next, most, long⟩
  | paused _ _ _ held => rcases busy with rfl | rfl <;> simp at held

/-- In every other state there is no rendering, and the head is not started or PAUSED. -/
theorem Stage.free {st : PortState} {head : Option Job} {rendered : Option (List Text)} (h : Stage st head rendered)
    (free : ¬ (st = .printing ∨ st = .late)) :
    rendered = none ∧ ((∀ j ∈ head, j.waiting = true)
      ∨ ∃ j n i, head = some j ∧ j.state = .paused ∧ j.serial = some n ∧ j.nextLine = some i
        ∧ (st = .offline ∨ st = .faulted)) := by
  cases h with
  | unstarted waiting _ _ => exact ⟨rfl, .inl waiting⟩
  | printing _ _ _ _ _ busy => exact absurd busy free
  | paused state serial next held => exact ⟨rfl, .inr ⟨_, _, _, rfl, state, serial, next, held⟩⟩

/-- Without a head there is no rendering. -/
theorem Stage.of_empty {st : PortState} {rendered : Option (List Text)} (h : Stage st none rendered) :
    rendered = none ∧ st ≠ .printing ∧ st ≠ .late := by
  cases h with
  | unstarted _ printing late => exact ⟨rfl, printing, late⟩

/-- A QUEUED head is not started. -/
theorem Stage.of_queued {st : PortState} {j : Job} {rendered : Option (List Text)} (h : Stage st (some j) rendered)
    (queued : j.state = .queued) : j.waiting = true := by
  cases h with
  | unstarted waiting _ _ => exact waiting j rfl
  | printing state _ _ _ _ _ => exact nomatch queued.symm.trans state
  | paused state _ _ _ => exact nomatch queued.symm.trans state

/-! ### A running port -/

/-- 07 R130, R147: the line timer runs exactly outside READY and ABSENT. -/
def Printer.Timed (x : Printer) : Prop := x.lineTimer.isSome = true ↔ x.state ≠ .ready ∧ x.state ≠ .absent

/-- A lawful port outside main reset. -/
structure Printer.Running (p : Port) (x : Printer) : Prop where
  lawful : x.Lawful p
  timed : x.Timed

/-- A running port `x` becomes a running port whose head carries `serial`. -/
def Printer.Becomes (p : Port) (x : Printer) (serial : Option Nat) (y : Printer) : Prop :=
  x.Running p → y.Running p ∧ y.headSerial = serial

theorem Printer.timed_of_running {x : Printer} (timer : x.lineTimer.isSome = true) (ready : x.state ≠ .ready)
    (absent : x.state ≠ .absent) : x.Timed := ⟨fun _ => ⟨ready, absent⟩, fun _ => timer⟩

theorem Printer.lawful_of_present {p : Port} {x : Printer} (present : x.present = true) (here : x.state ≠ .absent)
    (queued : Queued p x.queue) (faulty : x.fault.isSome = true ↔ x.state = .faulted)
    (stage : Stage x.state x.queue.head? x.rendered) : x.Lawful p where
  queued := queued
  faulty := faulty
  stage := stage
  missing absent := by
    rw [present] at absent
    contradiction
  here _ := here

theorem Printer.setHead_cons {x : Printer} {j : Job} {rest : List Job} (queue : x.queue = j :: rest) (f : Job → Job) :
    x.setHead f = { x with queue := f j :: rest } := by
  simp only [Printer.setHead, queue]

theorem Printer.setHead_id (x : Printer) : x.setHead id = x := by
  unfold Printer.setHead
  cases queue : x.queue <;> simp [← queue]

/-- The head of a port in PRINTING or LATE, and no fault. -/
theorem Printer.Lawful.inJob {p : Port} {x : Printer} (h : x.Lawful p) (busy : x.inJob = true) :
    ∃ j rest n i lines, x.queue = j :: rest ∧ x.rendered = some lines ∧ x.fault = none ∧ j.state = .printing
      ∧ j.serial = some n ∧ j.nextLine = some i ∧ i ≤ lines.length ∧ 1 ≤ lines.length := by
  have state := (x.inJob_iff).mp busy
  obtain ⟨j, n, i, lines, head, rendered, printing, serial, next, most, long⟩ := h.stage.inJob state
  obtain ⟨rest, queue⟩ := List.head?_eq_some_iff.mp head
  have fault : x.fault = none := by
    rw [← Option.not_isSome_iff_eq_none, h.faulty]
    exact (Printer.inJob_states busy).2.2
  exact ⟨j, rest, n, i, lines, queue, rendered, fault, printing, serial, next, most, long⟩

/-! ### Status bytes and the line timer (07 R129, R130, R137 to R140) -/

section Events

variable {p : Port} {x : Printer} (present : x.present = true)

/-- A port in job, its head at line `i` of its rendering. -/
theorem running_inJob {y : Printer} {k : Job} {rest : List Job} {n i : Nat} {lines : List Text} (here : y.present = true)
    (busy : y.inJob = true) (fault : y.fault = none) (timer : y.lineTimer.isSome = true) (queue : y.queue = k :: rest)
    (rendered : y.rendered = some lines) (queued : Queued p (k :: rest)) (state : k.state = .printing)
    (serial : k.serial = some n) (next : k.nextLine = some i) (most : i ≤ lines.length) (long : 1 ≤ lines.length) :
    y.Running p ∧ y.headSerial = some n := by
  obtain ⟨ready, absent, faulted⟩ := Printer.inJob_states busy
  refine ⟨⟨Printer.lawful_of_present here absent (queue ▸ queued) (by simp [fault, faulted]) ?_,
    Printer.timed_of_running timer ready absent⟩, by simp [Printer.headSerial, queue, serial]⟩
  rw [queue, rendered]
  exact .printing state serial next most long ((y.inJob_iff).mp busy)

include present

/-- 07 R129: READY where no job is in progress or PAUSED. -/
theorem ready_becomes (free : x.inJob = false) (unpaused : x.state = .unknown ∨ ∀ j ∈ x.queue.head?, j.state ≠ .paused) :
    x.Becomes p x.headSerial x.ready := by
  intro h
  have stage := h.lawful.stage.free (by simp [← x.inJob_iff, free])
  obtain ⟨rendered, waiting | ⟨j, -, -, head, state, -, -, held⟩⟩ := stage
  · refine ⟨⟨Printer.lawful_of_present present (by simp [Printer.ready]) h.lawful.queued (by simp [Printer.ready]) ?_,
      by simp [Printer.Timed, Printer.ready]⟩, rfl⟩
    show Stage .ready x.queue.head? x.rendered
    rw [rendered]
    exact .unstarted waiting (by simp) (by simp)
  · rcases unpaused with unknown | unpaused
    · simp [unknown] at held
    · exact absurd state (unpaused j head)

/-- 07 R140: a fault byte outside a job. -/
theorem faulted_becomes (free : x.inJob = false) (r : FaultReason) : x.Becomes p x.headSerial (x.faulted r) := by
  intro h
  have stage := h.lawful.stage.free (by simp [← x.inJob_iff, free])
  refine ⟨⟨Printer.lawful_of_present present (by simp [Printer.faulted]) h.lawful.queued (by simp [Printer.faulted]) ?_,
    by simp [Printer.Timed, Printer.faulted]⟩, rfl⟩
  show Stage .faulted x.queue.head? x.rendered
  obtain ⟨rendered, waiting | ⟨j, n, i, head, state, serial, next, -⟩⟩ := stage
  · rw [rendered]
    exact .unstarted waiting (by simp) (by simp)
  · rw [rendered, head]
    exact .paused state serial next (.inr rfl)

/-- 07 R139, R140: the job in progress PAUSED, the port gone OFFLINE or FAULTED. -/
theorem paused_becomes {y : Printer} (busy : x.inJob = true) (queue : y.queue = x.pauseHead.queue) (rendered : y.rendered = none)
    (here : y.present = x.present) (state : y.state = .offline ∨ y.state = .faulted)
    (faulty : x.fault = none → (y.fault.isSome = true ↔ y.state = .faulted)) (timer : y.lineTimer.isSome = true) :
    x.Becomes p x.headSerial y := by
  intro h
  obtain ⟨j, rest, n, i, lines, head, -, fault, printing, serial, next, -⟩ := h.lawful.inJob busy
  have held : y.queue = { j with state := .paused } :: rest := by
    rw [queue, Printer.pauseHead, Printer.setHead_cons head]
  have queued := h.lawful.queued
  rw [head] at queued
  have restarts := (queued.owned j List.mem_cons_self).2
  have stopped : y.state ≠ .ready ∧ y.state ≠ .absent := by rcases state with state | state <;> simp [state]
  refine ⟨⟨Printer.lawful_of_present (here.trans present) stopped.2 (held ▸ queued.head rfl restarts) (faulty fault) ?_,
    Printer.timed_of_running timer stopped.1 stopped.2⟩, by simp [Printer.headSerial, held, head]⟩
  rw [held, rendered]
  exact .paused rfl serial next state

/-- 07 R135: the job in progress goes on: the head at line `i` of its rendering, or where it was. -/
theorem working_becomes {y : Printer} {f : Job → Job} (busy : x.inJob = true) (still : y.inJob = true)
    (queue : y.queue = (x.setHead f).queue)
    (moved : ∀ j lines, x.rendered = some lines → j ∈ x.queue.head? →
      (f j).origin = j.origin ∧ (f j).restarts = j.restarts ∧ (f j).state = j.state ∧ (f j).serial = j.serial
      ∧ ((f j).nextLine = j.nextLine ∨ ∃ i ≤ lines.length, (f j).nextLine = some i))
    (rendered : y.rendered = x.rendered) (fault : y.fault = x.fault) (here : y.present = x.present)
    (timer : y.lineTimer.isSome = true) : x.Becomes p x.headSerial y := by
  intro h
  obtain ⟨j, rest, n, i, lines, head, list, none, printing, serial, next, most, long⟩ := h.lawful.inJob busy
  obtain ⟨origin, restarts, state, carried, line⟩ := moved j lines list (by rw [head]; rfl)
  have queued := h.lawful.queued
  rw [head] at queued
  have owned := (queued.owned j List.mem_cons_self).2
  have at' : ∃ k ≤ lines.length, (f j).nextLine = some k := line.elim (fun same => ⟨i, most, same.trans next⟩) id
  obtain ⟨k, within, line⟩ := at'
  have held : y.queue = f j :: rest := by rw [queue, Printer.setHead_cons head]
  have same : x.headSerial = some n := by simp [Printer.headSerial, head, serial]
  rw [same]
  exact running_inJob (here.trans present) still (fault.trans none) timer held (rendered.trans list)
    (queued.head origin (restarts ▸ owned)) (state.trans printing) (carried.trans serial) line within long

omit present in
/-- 07 R130: a probe sent where the timer runs. -/
theorem probed_becomes (ready : x.state ≠ .ready) (absent : x.state ≠ .absent) :
    x.Becomes p x.headSerial (x.send .probe) :=
  fun h => ⟨⟨{ h.lawful with }, Printer.timed_of_running rfl ready absent⟩, rfl⟩

/-! ### Starts, restarts and completion (07 R134, R136, R141) -/

/-- 07 R134, R141: the head begun at line 0 of a rendering. -/
theorem begun_becomes {j k : Job} {rest : List Job} {n : Nat} {lines : List Text} {f : Job → Job} (queue : x.queue = j :: rest)
    (begun : f j = k) (origin : k.origin = j.origin) (restarts : j.restarts ≤ 255 → k.restarts ≤ 255)
    (state : k.state = .printing) (serial : k.serial = some n) (next : k.nextLine = some 0) (long : 1 ≤ lines.length) :
    x.Becomes p (some n) ((x.setHead f).beginList lines) := by
  intro h
  have queued := h.lawful.queued
  rw [queue] at queued
  rw [Printer.setHead_cons queue, begun]
  exact running_inJob present rfl rfl rfl rfl rfl
    (queued.head origin (restarts (queued.owned j List.mem_cons_self).2)) state serial next (Nat.zero_le _) long

/-- 07 R136: the job in progress completed. -/
theorem completed_becomes (busy : x.inJob = true) :
    x.Becomes p none { x.ready with queue := x.queue.drop 1, rendered := none } := by
  intro h
  obtain ⟨j, rest, n, i, lines, head, -⟩ := h.lawful.inJob busy
  have queued := h.lawful.queued
  rw [head] at queued
  rw [head]
  exact ⟨⟨Printer.lawful_of_present present (by simp [Printer.ready]) queued.tail (by simp [Printer.ready])
    (.unstarted queued.next (by simp [Printer.ready]) (by simp [Printer.ready])), by simp [Printer.Timed, Printer.ready]⟩,
    serial_of_unstarted queued.next⟩

omit present

/-! ### Requests (06 R109, 07 R142, R144) -/

/-- 07 R132: a new job at the tail. -/
theorem enqueued_becomes {k : Job} (present : x.present = true) (room : x.queue.length < 8) (origin : k.origin = p)
    (waits : k.waiting = true) : x.Becomes p x.headSerial { x with queue := x.queue ++ [k] } := by
  intro h
  have queued := h.lawful.queued.append room origin waits
  have head : (x.queue ++ [k]).head? = x.queue.head?.or (some k) := List.head?_append
  have fresh : ∀ j ∈ some k, j.waiting = true := fun j hj => Option.some.inj hj ▸ waits
  cases old : x.queue.head? with
  | none =>
    rw [old, Option.none_or] at head
    obtain ⟨rendered, printing, late⟩ := (old ▸ h.lawful.stage).of_empty
    refine ⟨⟨Printer.lawful_of_present present (h.lawful.here present) queued h.lawful.faulty ?_, h.timed⟩, ?_⟩
    · show Stage x.state (x.queue ++ [k]).head? x.rendered
      rw [head, rendered]
      exact .unstarted fresh printing late
    · simp only [Printer.headSerial, head, old]
      exact serial_of_unstarted fresh
  | some j =>
    rw [old, Option.some_or, ← old] at head
    refine ⟨⟨Printer.lawful_of_present present (h.lawful.here present) queued h.lawful.faulty ?_, h.timed⟩, ?_⟩
    · show Stage x.state (x.queue ++ [k]).head? x.rendered
      rw [head]
      exact h.lawful.stage
    · simp only [Printer.headSerial, head]

/-- 07 R142: a head that is not in progress removed. -/
theorem removed_becomes {j : Job} {rest : List Job} (queue : x.queue = j :: rest) (idle : j.state ≠ .printing) :
    x.Becomes p none { x with queue := x.queue.drop 1 } := by
  intro h
  have stage := h.lawful.stage
  have queued := h.lawful.queued
  rw [queue] at stage queued
  have free : ¬ (x.state = .printing ∨ x.state = .late) := fun busy => by
    obtain ⟨k, -, -, -, same, -, printing, -⟩ := stage.inJob busy
    exact idle (Option.some.inj same ▸ printing)
  have rendered := (stage.free free).1
  obtain ⟨printing, late⟩ := not_or.mp free
  rw [queue]
  refine ⟨⟨{ h.lawful with queued := queued.tail, stage := ?_, missing := fun absent => ?_ }, h.timed⟩,
    serial_of_unstarted queued.next⟩
  · show Stage x.state rest.head? x.rendered
    rw [rendered]
    exact .unstarted queued.next printing late
  · obtain ⟨-, empty⟩ := h.lawful.missing absent
    rw [queue] at empty
    contradiction

/-- 07 R131: a QUEUED head carries no serial. -/
theorem headSerial_of_queued (h : x.Lawful p) {j : Job} {rest : List Job} (queue : x.queue = j :: rest)
    (state : j.state = .queued) : x.headSerial = none := by
  have stage := h.stage
  rw [queue] at stage
  obtain ⟨-, serial, -⟩ := (j.waiting_iff).mp (stage.of_queued state)
  simp [Printer.headSerial, queue, serial]

/-- 07 R144: the two values of a port. -/
theorem papered_becomes (width timeout : Nat) : x.Becomes p x.headSerial { x with width, timeout } :=
  fun h => ⟨⟨{ h.lawful with }, h.timed⟩, rfl⟩

end Events

end Sys2Proof.Machine
end

section
/-! PROOFS. The print works of the part: the printer ports, the open serials, the journal and the counts of ended receipts; what
leaves them alone, and the one change that each command makes of them (07 R129 to R154, 08 R150 to R155, 11 R202, R203). -/

namespace Sys2Proof.Machine

/-- What the printing of receipts is held in (07 R127, 08 R148, R151, R152, R159), and whether main reset is asserted. -/
structure Press where
  inReset       : Bool
  printers      : Four Printer
  openSerials   : Four (Option Nat)
  journal       : List JournalEntry
  serialCounter : Nat
  completed     : Nat
  interrupted   : Nat
  abandoned     : Nat

/-- The print works of the part. -/
def State.press (s : State) : Press :=
  { inReset := s.inReset, printers := s.printers, openSerials := s.openSerials, journal := s.journal
    serialCounter := s.serialCounter, completed := s.grand.completed, interrupted := s.grand.interrupted
    abandoned := s.grand.abandoned }

/-- Port `p` replaced. -/
def Press.setPrinter (r : Press) (p : Port) (x : Printer) : Press := { r with printers := r.printers.set p x }

/-- 08 R153: the receipt of a serial at port `p` ended with an outcome. -/
def Press.endReceipt (r : Press) (p : Port) (n : Nat) (o : JournalOutcome) : Press :=
  { r with
    journal := journalUpdate r.journal n fun e => { e with outcome := o }
    openSerials := r.openSerials.set p none
    completed := if o = .complete then satAdd r.completed 1 else r.completed
    interrupted := if o = .interrupted then satAdd r.interrupted 1 else r.interrupted
    abandoned := if o = .abandoned then satAdd r.abandoned 1 else r.abandoned }

/-- 08 R154: the open serial of port `p`, if any, made INTERRUPTED. -/
def Press.interrupt (r : Press) (p : Port) : Press :=
  match r.openSerials.get p with
  | none => r
  | some n => r.endReceipt p n .interrupted

/-- 08 R154, 11 R202: every open serial made INTERRUPTED, and every port brought up. -/
def Press.release (r : Press) (pins : ReleasePins) : Press :=
  let q := (((r.interrupt 0).interrupt 1).interrupt 2).interrupt 3
  { q with
    inReset := false
    printers := Four.ofFn fun p =>
      releasedPrinter (pins.printerStraps.get p) (q.printers.get p).width (q.printers.get p).timeout }

/-- 11 R203: the backup domain of the print works at its power-on values. -/
def Press.defaults (r : Press) : Press :=
  { inReset := r.inReset, printers := Four.ofFn fun p => { r.printers.get p with width := 40, timeout := 3 }
    openSerials := ⟨none, none, none, none⟩, journal := [], serialCounter := 1, completed := 0, interrupted := 0
    abandoned := 0 }

/-- 11 R202: main reset asserted where it was not, with every port stopped. -/
def Press.lose (r : Press) : Press := { r with inReset := true, printers := Four.ofFn fun p => (r.printers.get p).lost }

theorem State.endReceipt_press (s : State) (p : Port) (n : Nat) (o : JournalOutcome) :
    (s.endReceipt p n o).press = s.press.endReceipt p n o := by
  cases o <;> rfl

theorem State.interrupt_press (s : State) (p : Port) : (s.interrupt p).press = s.press.interrupt p := by
  unfold State.interrupt Press.interrupt
  rw [show s.press.openSerials = s.openSerials from rfl]
  cases s.openSerials.get p with
  | none => rfl
  | some n => exact s.endReceipt_press p n .interrupted

theorem State.assertBy_press (s : State) (cause : ResetCause) :
    (s.assertBy cause).press = { s.press with inReset := true } := by
  cases cause <;> simp [State.press, State.assertBy, State.inReset]

theorem State.loseMain_press (s : State) (cause : ResetCause) : (s.loseMain.assertBy cause).press = s.press.lose := by
  rw [State.assertBy_press]
  rfl

theorem State.release_press (s : State) (pins : ReleasePins) : (s.release pins).press = s.press.release pins := by
  have interrupted : ((((s.interrupt 0).interrupt 1).interrupt 2).interrupt 3).press
      = (((s.press.interrupt 0).interrupt 1).interrupt 2).interrupt 3 := by
    simp only [State.interrupt_press]
  unfold Press.release
  rw [← interrupted]
  rfl

/-! ### The changes -/

/-- 07 R133, R134, 08 R150 to R152: what a job start makes of the print works. -/
inductive Press.Starts (r : Press) : Press → Prop where
  | start {p : Port} {y : Printer} {job : Job} {rest : List Job} (e : JournalEntry) : r.inReset = false →
      (r.printers.get p).queue = job :: rest → job.state = .queued →
      (r.printers.get p).Becomes p (some r.serialCounter) y → e.serial = r.serialCounter →
      r.Starts { r.setPrinter p y with
        serialCounter := nextSerial r.serialCounter
        journal := journalPush r.journal e
        openSerials := r.openSerials.set p (some r.serialCounter) }

/-- What any other command makes of the print works, a backup power-on reset apart. -/
inductive Press.Change (r : Press) : Press → Prop where
  | kept : r.Change r
  | moved {p : Port} {y : Printer} : r.inReset = false → (r.printers.get p).Becomes p (r.printers.get p).headSerial y →
      r.Change (r.setPrinter p y)
  | restarted {p : Port} {y : Printer} {n : Nat} : r.inReset = false → (r.printers.get p).headSerial = some n →
      (r.printers.get p).Becomes p (some n) y → r.Change { r.setPrinter p y with
        journal := journalUpdate r.journal n fun e => { e with restarts := nextRestart e.restarts } }
  | ended {p : Port} {y : Printer} {n : Nat} {o : JournalOutcome} : r.inReset = false → o = .complete ∨ o = .abandoned →
      (r.printers.get p).headSerial = some n → (r.printers.get p).Becomes p none y →
      r.Change ((r.setPrinter p y).endReceipt p n o)
  | lost : r.inReset = false → r.Change r.lose
  | released (pins : ReleasePins) : r.inReset = true → r.Change (r.release pins)

theorem Press.Change.of_eq {r q : Press} (h : q = r) : r.Change q := h ▸ .kept

/-! ### What leaves the print works alone, and what queues a job -/

theorem State.endFlight_press (s : State) (p : Port) (r : ResultCode) (fields : List Byte) :
    (s.endFlight p r fields).press = s.press := by
  rw [State.endFlight_eq]
  split <;> rfl

theorem State.dropWeighing_press (s : State) (b : BridgeId) : (s.dropWeighing b).press = s.press := by
  unfold State.dropWeighing
  split
  · rfl
  · obtain ⟨tickets, h⟩ := s.clearTaskMark_frame _
    rw [h]
    rfl

theorem State.failWeighing_press (s : State) (b : BridgeId) (r : ResultCode) : (s.failWeighing b r).press = s.press := by
  unfold State.failWeighing
  split
  · rfl
  · rw [State.endFlight_press, State.dropWeighing_press]

theorem State.setLink_press (s : State) (b : BridgeId) (l : LinkState) : (s.setLink b l).press = s.press := by
  unfold State.setLink
  dsimp only
  split
  · exact State.failWeighing_press _ b .stale
  · exact State.failWeighing_press _ b .scaleFault
  · rfl
  · rfl
  · rfl

theorem State.recordCompletion_press (s : State) (job : Job) (serial : Nat) :
    (s.recordCompletion job serial).press = s.press := by
  unfold State.recordCompletion
  split
  · rfl
  · split <;> rfl

section Jobs

variable {s u : State} {p : Port} (awake : s.inReset = false) (same : u.press = s.press)
include awake same

/-- 07 R132: an obligatory job that no check refuses, queued with the print works as they were. -/
theorem enqueue_press (accepted : s.queueRefusal p = none) (kind : JobKind) (x : Snapshot) (copyOf : Option Nat) :
    s.press.Change (u.enqueue p (newJob kind p x copyOf)).press := by
  obtain ⟨present, room⟩ := State.queueRefusal_none.mp accepted
  have moved : s.press.Change (s.press.setPrinter p
      { s.printer p with queue := (s.printer p).queue ++ [newJob kind p x copyOf] }) :=
    .moved awake (enqueued_becomes present room rfl rfl)
  rw [State.printer, show s.printers = u.printers from congrArg Press.printers same.symm, ← same] at moved
  rw [← same]
  exact moved

/-- 06 R109: an optional job queued or dropped. -/
theorem offer_press (kind : JobKind) (x : Snapshot) : s.press.Change (u.offer p (newJob kind p x none)).1.press := by
  have refusal : u.queueRefusal p = s.queueRefusal p := by
    unfold State.queueRefusal State.printer
    rw [show u.printers = s.printers from congrArg Press.printers same]
  unfold State.offer
  rw [refusal]
  split
  · exact .of_eq same
  · exact enqueue_press awake same ‹_› kind x none

end Jobs

theorem closeTicket_press {s : State} {p : Port} (awake : s.inReset = false) (i : Nat) (t : Ticket) :
    s.press.Change (s.closeTicket i t p).1.press :=
  offer_press (u := { s with tickets := s.tickets.set i (some (settleTicket s.grades s.clock t))
                             day := { s.day with settled := satAdd s.day.settled 1 } }) awake rfl .settleSlip _

end Sys2Proof.Machine
end

section
/-! PROOFS. Every command changes the print works in one of the ways of `Press.Change`, a job start and a backup power-on reset
apart. -/

namespace Sys2Proof.Machine

/-! ### Weigh links (01 R3 to R8, R14 to R17) -/

section Links

variable {s : State} (awake : s.inReset = false) (b : BridgeId)

theorem State.deliverGross_press (s : State) (b : BridgeId) (w : Nat) (vehicle : Option Text) (seller : Option Nat) :
    (s.deliverGross b w vehicle seller).state.press = s.press := by
  unfold State.deliverGross
  split <;> rfl

theorem State.deliverStoreTare_press (s : State) (b : BridgeId) (w : Nat) (vehicle : Text) :
    (s.deliverStoreTare b w vehicle).state.press = s.press := by
  unfold State.deliverStoreTare
  split
  · rfl
  · split
    · rfl
    · split <;> rfl

include awake

/-- 01 R16: of the deliveries a TARE capture alone queues a job, the slip of the ticket it closes. -/
theorem deliver_press (w : Int) (x : Weighing) : s.press.Change (s.deliver b w x).state.press := by
  unfold State.deliver
  cases x.task with
  | gross vehicle seller =>
    dsimp only
    split
    · exact .kept
    · exact .of_eq (s.deliverGross_press b w.toNat vehicle seller)
  | drop n grade manual =>
    dsimp only
    split
    · exact .kept
    · split
      · exact .kept
      · exact .kept
  | tare n grade manual =>
    dsimp only
    split
    · exact .kept
    · split
      · exact .kept
      · exact closeTicket_press awake _ _
  | storeTare vehicle =>
    dsimp only
    split
    · exact .kept
    · exact .of_eq (s.deliverStoreTare_press b w.toNat vehicle)

theorem capture_press (x : Weighing) (raw : Int) : s.press.Change (s.capture b x raw).press := by
  have delivered := deliver_press awake b ((s.bridge b).capturedWeight raw) x
  unfold State.capture
  rw [State.endFlight_press]
  exact delivered

theorem countedSample_press (raw : Int) : s.press.Change (s.countedSample b raw).press := by
  have captured (x : Weighing) := capture_press (s := s.setBridge b ((s.bridge b).evaluate raw)) awake b x raw
  unfold State.countedSample
  dsimp only
  split
  · split
    · exact captured _
    · exact .kept
  · exact .kept

theorem divide_press (raw : Int) : s.press.Change (s.divide b raw).press := by
  have counted := countedSample_press (s := s.setBridge b { s.bridge b with dividerCount := 0 }) awake b raw
  unfold State.divide
  dsimp only
  split
  · exact counted
  · exact .kept

theorem sample_press (raw : Int) (fault : Bool) : s.press.Change (s.sample b raw fault).press := by
  unfold State.sample
  dsimp only
  split
  · exact .of_eq (State.setLink_press _ b .fault)
  · have linked := State.setLink_press (s.setBridge b { s.bridge b with
      latest := some ⟨raw, fault⟩, staleTimer := some (s.bridge b).config.staleTimeout, rx := .hunting }) b .live
    have divided := divide_press (b := b) (raw := raw) ((congrArg Press.inReset linked).trans awake)
    rw [linked] at divided
    exact divided

end Links

/-! ### Requests -/

/-- The print works after a block's reply in state `s`. -/
def Reply.press (s : State) : Reply → Press
  | .refuse _ => s.press
  | .done _ t => t.press
  | .flight _ t => t.press

theorem Reply.apply_press (r : Reply) (cls : Byte) (p : Port) (s : State) : (r.apply cls p s).press = r.press s := by
  cases r <;> rfl

section Replies

variable (p : Port) {s : State}

theorem abortReply_press (r : Unit) : (abortReply p r s).press s = s.press := by
  unfold abortReply
  split
  · rfl
  · exact (State.endFlight_press _ p _ _).trans (s.dropWeighing_press _)

theorem openTicketReply_press (r : OpenTicketReq) : (openTicketReply p r s).press s = s.press := by
  rw [openTicketReply_eq]
  split <;> rfl

theorem weighReply_press (drop : Bool) (r : WeighReq) : (weighReply drop p r s).press s = s.press := by
  rw [weighReply_eq]
  split
  · rfl
  · split <;> rfl

theorem storeTareReply_press (r : StoreTareReq) : (storeTareReply p r s).press s = s.press := by
  rw [storeTareReply_eq]
  split <;> rfl

theorem zeroReply_press (b : BridgeId) : (zeroReply p b s).press s = s.press := by
  rw [zeroReply_eq _ p s b rfl]
  split <;> rfl

theorem setBridgeReply_press (r : SetBridgeReq) : (setBridgeReply p r s).press s = s.press := by
  unfold setBridgeReply
  dsimp only
  split <;> rfl

theorem setPartyReply_press (r : SetPartyReq) : (setPartyReply p r s).press s = s.press := by
  rw [setPartyReply_eq]
  split
  · rfl
  · split <;> rfl

theorem setGradeReply_press (r : SetGradeReq) : (setGradeReply p r s).press s = s.press := by
  unfold setGradeReply
  split
  · rfl
  · split <;> rfl

theorem removeGradeReply_press (code : Nat) : (removeGradeReply p code s).press s = s.press := by
  unfold removeGradeReply
  split
  · rfl
  · split <;> rfl

theorem deleteTareReply_press (v : Text) : (deleteTareReply p v s).press s = s.press := by
  unfold deleteTareReply
  split <;> rfl

theorem alignMinuteReply_press (r : Unit) : (alignMinuteReply p r s).press s = s.press := by
  unfold alignMinuteReply
  split <;> rfl

theorem openTillReply_press (float : Nat) : (openTillReply p float s).press s = s.press := by
  unfold openTillReply
  split <;> rfl

theorem loadCashReply_press (amount : Nat) : (loadCashReply p amount s).press s = s.press := by
  unfold loadCashReply
  split <;> rfl

theorem queryTicketReply_press (r : QueryTicketReq) : (queryTicketReply p r s).press s = s.press := by
  unfold queryTicketReply
  split
  · rfl
  · split <;> rfl

theorem queryGradeReply_press (r : QueryGradeReq) : (queryGradeReply p r s).press s = s.press := by
  unfold queryGradeReply
  split
  · split <;> rfl
  · rfl

theorem queryTareReply_press (r : QueryTareReq) : (queryTareReply p r s).press s = s.press := by
  unfold queryTareReply
  split <;> split <;> rfl

theorem queryJournalReply_press (r : QueryJournalReq) : (queryJournalReply p r s).press s = s.press := by
  unfold queryJournalReply
  split <;> split <;> rfl

theorem queryTotalsReply_press (r : QueryTotalsReq) : (queryTotalsReply p r s).press s = s.press := by
  unfold queryTotalsReply
  split <;> rfl

/-! ### Requests that reach the print queues (06 R109, 07 R132, R142, R144) -/

variable (awake : s.inReset = false)
include awake

theorem voidTicketReply_press (n : Nat) : s.press.Change ((voidTicketReply p n s).press s) := by
  unfold voidTicketReply
  iterate 3 (split; · exact .kept)
  rename_i i t _ _ _
  exact offer_press (u := { s with tickets := s.tickets.set i (some (voidedTicket s.stamp t))
                                   day := { s.day with voided := satAdd s.day.voided 1 } }) awake rfl .voidSlip _

theorem setDeductionReply_press (r : SetDeductionReq) : s.press.Change ((setDeductionReply p r s).press s) := by
  unfold setDeductionReply
  iterate 3 (split; · exact .kept)
  dsimp only
  split
  · exact .kept
  · exact offer_press (u := s.putTicket _ _) awake rfl .settleSlip _

theorem applyTareReply_press (r : ApplyTareReq) : s.press.Change ((applyTareReply p r s).press s) := by
  unfold applyTareReply
  iterate 9 (split; · exact .kept)
  exact closeTicket_press awake _ _

theorem closeTillReply_press (counted : Nat) : s.press.Change ((closeTillReply p counted s).press s) := by
  unfold closeTillReply
  split
  · exact .kept
  · split
    · exact .kept
    · exact enqueue_press (u := s.setTill p _) awake rfl ‹_› .tillReport _ none

theorem forceCloseTillReply_press (k : Port) : s.press.Change ((forceCloseTillReply p k s).press s) := by
  unfold forceCloseTillReply
  split
  · exact .kept
  · exact offer_press (u := s.setTill k _) awake rfl .tillReport _

omit awake in
/-- 05 R88: a window that can pay has room for the receipt. -/
theorem queueRefusal_of_window (window : s.windowRefusal p = none) : s.queueRefusal p = none := by
  unfold State.windowRefusal at window
  split at window
  · contradiction
  · exact window

/-- 05 R96: of the print works, a payment meets the queue of its receipt. -/
theorem payTicket_press (accepted : s.queueRefusal p = none) (i : Nat) (t : Ticket) (seller amount : Nat) (m : Method) :
    s.press.Change (s.payTicket p i t seller amount m).press := by
  unfold State.payTicket
  exact enqueue_press awake rfl accepted _ _ none

theorem payReply_press (r : PayReq) : s.press.Change ((payReply p r s).press s) := by
  unfold payReply
  iterate 4 (split; · exact .kept)
  split
  · exact .kept
  · rename_i window
    dsimp only
    split
    · exact .kept
    · exact payTicket_press p awake (queueRefusal_of_window p window) _ _ _ _ _

theorem dayCloseReply_press (r : Unit) : s.press.Change ((dayCloseReply p r s).press s) := by
  unfold dayCloseReply
  split
  · exact .kept
  · split
    · exact .kept
    · exact enqueue_press awake rfl ‹_› .dayReport _ none

theorem copyReply_press (n : Nat) : s.press.Change ((copyReply p n s).press s) := by
  unfold copyReply
  split
  · exact .kept
  · split
    · exact .kept
    · exact enqueue_press awake rfl ‹_› .copy _ _

/-- 07 R142: the head removed, with no receipt to end. -/
theorem discardJobReply_press (r : Unit) : s.press.Change ((discardJobReply p r s).press s) := by
  unfold discardJobReply
  split
  · exact .kept
  · rename_i job rest queue
    split
    · exact .kept
    · rename_i state
      have removed := removed_becomes (p := p) queue (by simp [state])
      exact .moved awake fun h => by
        rw [headSerial_of_queued h.lawful queue state]
        exact removed h
    · rename_i state
      have removed := removed_becomes (p := p) queue (by simp [state])
      split
      · rename_i serial
        have bare : (s.printer p).headSerial = none := by simp [Printer.headSerial, queue, serial]
        exact .moved awake (bare ▸ removed)
      · rename_i n serial
        have carried : (s.printer p).headSerial = some n := by simp [Printer.headSerial, queue, serial]
        show s.press.Change ((s.removeHead p).endReceipt p n .abandoned).press
        rw [State.endReceipt_press]
        exact .ended awake (.inr rfl) carried removed

theorem setPrinterReply_press (r : SetPrinterReq) : s.press.Change ((setPrinterReply p r s).press s) :=
  .moved awake (papered_becomes r.width r.timeout)

end Replies

end Sys2Proof.Machine
end

section
/-! PROOFS. The change that each event of a printer port makes of the print works, and so every command and every step
(07 R129 to R141, 11 R202, R203). -/

namespace Sys2Proof.Machine

/-! ### Printer ports -/

theorem State.printerHears_iff (s : State) (p : Port) :
    s.printerHears p = true ↔ s.inReset = false ∧ (s.printer p).present = true := by
  simp [State.printerHears]

section Printers

variable {s : State} {p : Port}

/-- 07 R141: the head begun again under its own serial. -/
theorem restartJob_press (hears : s.printerHears p = true) {job : Job} {rest : List Job}
    (queue : (s.printer p).queue = job :: rest) : s.press.Change (s.restartJob p job).press := by
  obtain ⟨awake, present⟩ := (s.printerHears_iff p).mp hears
  unfold State.restartJob
  split
  · exact .kept
  · rename_i n serial
    exact .restarted awake (by simp [Printer.headSerial, show s.press.printers.get p = s.printer p from rfl, queue, serial])
      (begun_becomes (f := fun _ => job.restarted) present queue rfl rfl (fun _ => Nat.min_le_right _ _) rfl serial rfl
        (receipt_length_pos _ _ _ _ _))

theorem execStatusReady_press {t : State} (h : execStatusReady p s = .next t) : s.press.Change t.press := by
  obtain rfl := Host.Outcome.next.inj h
  split
  · exact .kept
  · rename_i hears
    rw [Bool.not_eq_true', Bool.not_eq_false] at hears
    obtain ⟨awake, present⟩ := (s.printerHears_iff p).mp hears
    have ready (free : (s.printer p).inJob = false) (unpaused : (s.printer p).state = .unknown
        ∨ ∀ j ∈ (s.printer p).queue.head?, j.state ≠ .paused) :
        s.press.Change (s.setPrinter p (s.printer p).ready).press := .moved awake (ready_becomes present free unpaused)
    have readyOrRestart (free : (s.printer p).inJob = false) : s.press.Change (s.readyOrRestart p).press := by
      unfold State.readyOrRestart
      split
      · rename_i job rest queue
        split
        · exact restartJob_press hears queue
        · rename_i unpaused
          refine ready free (.inr fun j hj => ?_)
          rw [queue] at hj
          exact Option.some.inj hj ▸ unpaused
      · rename_i queue
        exact ready free (.inr fun j hj => by
          rw [queue] at hj
          contradiction)
    cases state : (s.printer p).state with
    | unknown =>
      exact ready (by simp [Printer.inJob, state]) (.inl state)
    | offline => exact readyOrRestart (by simp [Printer.inJob, state])
    | faulted => exact readyOrRestart (by simp [Printer.inJob, state])
    | late =>
      show s.press.Change (s.restartLate p).press
      unfold State.restartLate
      split
      · exact restartJob_press hears ‹_›
      · exact .kept
    | absent => exact .kept
    | ready => exact .kept
    | printing => exact .kept

/-- 07 R136: the job in progress completed, its receipt ended. -/
theorem completeJob_press (awake : s.inReset = false) (present : (s.printer p).present = true)
    (busy : (s.printer p).inJob = true) {job : Job} {rest : List Job} (queue : (s.printer p).queue = job :: rest) :
    s.press.Change (s.completeJob p job).press := by
  have completed := completed_becomes (p := p) present busy
  unfold State.completeJob
  dsimp only
  split
  · rename_i serial
    have bare : (s.printer p).headSerial = none := by simp [Printer.headSerial, queue, serial]
    exact .moved awake (bare ▸ completed)
  · rename_i n serial
    have carried : (s.printer p).headSerial = some n := by simp [Printer.headSerial, queue, serial]
    rw [State.recordCompletion_press, State.endReceipt_press]
    exact .ended awake (.inl rfl) carried completed

/-- 07 R135: the head moved to line `i` of its rendering, and the message sent. -/
theorem acknowledged_becomes {x : Printer} (present : x.present = true) (busy : x.inJob = true) {i : Nat}
    (within : i ≤ (x.rendered.getD []).length) (m : PrinterMessage) : x.Becomes p x.headSerial
      ((({ x with state := .printing } : Printer).setHead fun j => { j with nextLine := some i }).send m) :=
  working_becomes (f := fun j => { j with nextLine := some i }) present busy rfl rfl
    (fun j lines rendered _ => ⟨rfl, rfl, rfl, rfl, .inr ⟨i, by rwa [rendered] at within, rfl⟩⟩) rfl rfl rfl rfl

theorem acknowledge_press (awake : s.inReset = false) (present : (s.printer p).present = true)
    (busy : (s.printer p).inJob = true) {job : Job} {rest : List Job} (queue : (s.printer p).queue = job :: rest) :
    s.press.Change (s.acknowledge p job ((s.printer p).rendered.getD [])).press := by
  have acknowledged {i : Nat} (within : i ≤ ((s.printer p).rendered.getD []).length) (m : PrinterMessage) :=
    acknowledged_becomes (p := p) present busy within m
  unfold State.acknowledge
  dsimp only
  split
  · rename_i more
    split
    · exact .moved awake (acknowledged more _)
    · exact .moved awake (acknowledged le_rfl _)
  · exact completeJob_press awake present busy queue

theorem execStatusDone_press {t : State} (h : execStatusDone p s = .next t) : s.press.Change t.press := by
  obtain rfl := Host.Outcome.next.inj h
  split
  · rename_i taken
    obtain ⟨hears, busy⟩ := (Bool.and_eq_true _ _).mp taken
    obtain ⟨awake, present⟩ := (s.printerHears_iff p).mp hears
    split
    · exact acknowledge_press awake present busy ‹_›
    · exact .kept
  · exact .kept

theorem execStatusBusy_press {t : State} (h : execStatusBusy p s = .next t) : s.press.Change t.press := by
  obtain rfl := Host.Outcome.next.inj h
  split
  · rename_i taken
    obtain ⟨hears, busy⟩ := (Bool.and_eq_true _ _).mp taken
    obtain ⟨awake, present⟩ := (s.printerHears_iff p).mp hears
    exact .moved awake (working_becomes (f := id) present busy rfl (by rw [Printer.setHead_id]; rfl)
      (fun _ _ _ _ => ⟨rfl, rfl, rfl, rfl, .inl rfl⟩) rfl rfl rfl rfl)
  · exact .kept

theorem execFaultByte_press {r : FaultReason} {t : State} (h : execFaultByte p r s = .next t) : s.press.Change t.press := by
  obtain rfl := Host.Outcome.next.inj h
  split
  · exact .kept
  · rename_i hears
    rw [Bool.not_eq_true', Bool.not_eq_false] at hears
    obtain ⟨awake, present⟩ := (s.printerHears_iff p).mp hears
    split
    · rename_i busy
      exact .moved awake (paused_becomes present busy rfl rfl rfl (.inr rfl) (fun _ => by simp [Printer.faulted]) rfl)
    · rename_i free
      exact .moved awake (faulted_becomes present (by simpa using free) r)

theorem execLineTimerExpiry_press {t : State} (h : execLineTimerExpiry p s = .next t) : s.press.Change t.press := by
  obtain rfl := Host.Outcome.next.inj h
  split
  · exact .kept
  · rename_i taken
    rw [Bool.not_eq_true', Bool.not_eq_false, Bool.and_eq_true] at taken
    obtain ⟨awake, present⟩ := (s.printerHears_iff p).mp taken.1
    have probed (ready : (s.printer p).state ≠ .ready) (absent : (s.printer p).state ≠ .absent) :
        s.press.Change (s.setPrinter p ((s.printer p).send .probe)).press := .moved awake (probed_becomes ready absent)
    cases state : (s.printer p).state with
    | unknown => exact probed (by simp [state]) (by simp [state])
    | offline => exact probed (by simp [state]) (by simp [state])
    | faulted => exact probed (by simp [state]) (by simp [state])
    | printing =>
      exact .moved awake (working_becomes (f := id) present (by simp [Printer.inJob, state]) rfl
        (by rw [Printer.setHead_id]; rfl)
        (fun _ _ _ _ => ⟨rfl, rfl, rfl, rfl, .inl rfl⟩) rfl rfl rfl rfl)
    | late =>
      refine .moved awake (paused_becomes present (by simp [Printer.inJob, state]) rfl rfl rfl (.inl rfl) (fun fault => ?_) rfl)
      show (s.printer p).fault.isSome = true ↔ PortState.offline = .faulted
      simp [fault]
    | absent => exact .kept
    | ready => exact .kept

/-! ### Job starts (07 R133, R134) -/

theorem execJobStart_starts {t : State} (starts : s.startsJob (.jobStart p) = true) (h : execJobStart p s = .next t) :
    s.press.Starts t.press := by
  simp only [State.startsJob, Bool.and_eq_true, Bool.not_eq_true', beq_iff_eq] at starts
  obtain ⟨⟨⟨awake, present⟩, ready⟩, head⟩ := starts
  cases queue : (s.printer p).queue with
  | nil => simp [queue] at head
  | cons job rest =>
    have queued : job.state = .queued := by simpa [queue] using head
    obtain rfl := Host.Outcome.next.inj h
    simp only [queue, State.printerHears, awake, present, ready, queued, Bool.not_false, beq_self_eq_true, Bool.and_self,
      if_true]
    exact .start (startEntry p s.serialCounter job) awake queue queued
      (begun_becomes present queue rfl rfl id rfl rfl rfl (receipt_length_pos _ _ _ _ _)) rfl

end Printers
end Sys2Proof.Machine
end

section
/-! PROOFS. The change that every command makes of the print works (07, 08 R150 to R154, 11 R202, R203). -/

namespace Sys2Proof.Machine

/-! ### Job starts, resets and frames -/

section Events

variable {s t : State}

/-- 07 R133: without its condition there is no start. -/
theorem execJobStart_idle {p : Port} (idle : s.startsJob (.jobStart p) = false) (h : execJobStart p s = .next t) : t = s := by
  obtain rfl := Host.Outcome.next.inj h
  split
  · rename_i job rest queue
    have same : (s.printerHears p && (s.printer p).state == .ready && job.state == .queued) = s.startsJob (.jobStart p) := by
      simp [State.startsJob, State.printerHears, queue]
    rw [same, idle]
    rfl
  · rfl

theorem execMainReset_press {cause : ResetCause} (h : execMainReset cause s = .next t) : s.press.Change t.press := by
  obtain rfl := Host.Outcome.next.inj h
  split
  · rename_i reset
    rw [State.assertBy_press, ← reset]
    exact .kept
  · rename_i awake
    rw [State.loseMain_press]
    exact .lost ((Bool.not_eq_true _).mp awake)

theorem execMainResetRelease_press {pins : ReleasePins} (h : execMainResetRelease pins s = .next t) :
    s.press.Change t.press := by
  obtain rfl := Host.Outcome.next.inj h
  split
  · rw [State.release_press]
    exact .released pins ‹_›
  · exact .kept

/-- 11 R203: a backup power-on reset comes with a main reset, where none is asserted. -/
theorem execBackupPowerOnReset_press (h : execBackupPowerOnReset s = .next t) :
    t.press = (if s.inReset then s.press else s.press.lose).defaults := by
  obtain rfl := Host.Outcome.next.inj h
  split
  · rename_i reset
    show (s.assertBy .vcore).press.defaults = _
    rw [State.assertBy_press, ← reset]
    rfl
  · show (s.loseMain.assertBy .vcore).press.defaults = _
    rw [State.loseMain_press]

theorem execSampleEvent_press {b : BridgeId} {raw : BitVec 24} {status : Byte}
    (h : execSampleEvent b raw status s = .next t) : s.press.Change t.press := by
  obtain rfl := Host.Outcome.next.inj h
  split
  · exact .kept
  · rename_i awake
    exact sample_press (by simpa using awake) b _ _

theorem execBadSampleFrame_press {b : BridgeId} (h : execBadSampleFrame b s = .next t) : s.press.Change t.press := by
  obtain rfl := Host.Outcome.next.inj h
  split
  · exact .kept
  · exact .kept

theorem execStaleTimerExpiry_press {b : BridgeId} (h : execStaleTimerExpiry b s = .next t) : s.press.Change t.press := by
  obtain rfl := Host.Outcome.next.inj h
  split
  · exact .of_eq (State.setLink_press _ b .down)
  · exact .kept

theorem execMotionDeadline_press {b : BridgeId} (h : execMotionDeadline b s = .next t) : s.press.Change t.press := by
  obtain rfl := Host.Outcome.next.inj h
  split
  · exact .kept
  · exact .of_eq (s.failWeighing_press b .unstable)

theorem execBeamEvent_press {b : BridgeId} {e : BeamEnd} {high : Bool} (h : execBeamEvent b e high s = .next t) :
    s.press.Change t.press := by
  obtain rfl := Host.Outcome.next.inj h
  split
  · exact .kept
  · exact .kept

theorem execIndicatorReceivedByte_press {b : BridgeId} {x : Byte} (h : execIndicatorReceivedByte b x s = .next t) :
    s.press.Change t.press := by
  unfold execIndicatorReceivedByte at h
  split at h
  · obtain rfl := Host.Outcome.next.inj h
    exact .kept
  · split at h
    · obtain rfl := Host.Outcome.next.inj h
      split
      · exact .kept
      · exact .kept
    · split at h
      · split at h
        · exact execSampleEvent_press h
        · exact execBadSampleFrame_press h
      · obtain rfl := Host.Outcome.next.inj h
        exact .kept

theorem takeFrame_answer_press (p : Port) (s : State) (a : Answer) :
    (takeFrame p s fun u => u.answer p a).press = s.press :=
  takeFrame_keeps (P := fun u => u.press = s.press) rfl (fun _ => rfl) fun _ _ => rfl

theorem execInterByteTimeout_press {p : Port} (h : execInterByteTimeout p s = .next t) : t.press = s.press := by
  obtain rfl := Host.Outcome.next.inj h
  split <;> rfl

theorem execBreakCondition_press {p : Port} (h : execBreakCondition p s = .next t) : t.press = s.press := by
  obtain rfl := Host.Outcome.next.inj h
  split <;> rfl

theorem execAnswerTransmitted_press {p : Port} (h : execAnswerTransmitted p s = .next t) : t.press = s.press := by
  obtain rfl := Host.Outcome.next.inj h
  split <;> rfl

section Request

variable {α : Type} {cls : Byte} {permitted : Role → Bool} {decode : List Byte → Option α}
  {act : Port → α → State → Reply} {p : Port} {fields : List Byte}

/-- Taking and answering a frame leaves the print works alone: the block's reply alone can change them, outside main reset. -/
theorem takeRequest_press (taken : takeRequest cls permitted decode act p fields s = .next t)
    (reply : ∀ r (u : State), u.inReset = false → u.press.Change ((act p r u).press u)) : s.press.Change t.press :=
  takeRequest_keeps (P := fun u => s.press.Change u.press) taken .kept .kept (fun _ _ => .kept) fun r _ hears _ _ _ => by
    rw [Reply.apply_press]
    exact reply r (s.idleReceiver p) ((s.hears_iff p).mp hears).1

theorem takeRequest_press_kept (taken : takeRequest cls permitted decode act p fields s = .next t)
    (reply : ∀ r u, (act p r u).press u = u.press) : s.press.Change t.press :=
  takeRequest_press taken fun r u _ => .of_eq (reply r u)

end Request

end Events

/-! ### Every command -/

theorem exec_press_unless_byte {c : Instr} {s t : State} (notByte : ∀ p b, c ≠ .consoleReceivedByte p b)
    (idle : s.startsJob c = false) (powered : c ≠ .backupPowerOnReset) (h : exec c s = .next t) : s.press.Change t.press := by
  cases c with
  | abort p f => exact takeRequest_press_kept h fun r u => abortReply_press p r
  | queryStatus p f => exact takeRequest_press_kept h fun _ _ => rfl
  | openTicket p f => exact takeRequest_press_kept h fun r u => openTicketReply_press p r
  | weighDrop p f => exact takeRequest_press_kept h fun r u => weighReply_press p true r
  | weighTare p f => exact takeRequest_press_kept h fun r u => weighReply_press p false r
  | storeTare p f => exact takeRequest_press_kept h fun r u => storeTareReply_press p r
  | applyStoredTare p f => exact takeRequest_press h fun r u awake => applyTareReply_press p awake r
  | zero p f => exact takeRequest_press_kept h fun r u => zeroReply_press p r
  | setDeduction p f => exact takeRequest_press h fun r u awake => setDeductionReply_press p awake r
  | setParty p f => exact takeRequest_press_kept h fun r u => setPartyReply_press p r
  | openTill p f => exact takeRequest_press_kept h fun r u => openTillReply_press p r
  | loadCash p f => exact takeRequest_press_kept h fun r u => loadCashReply_press p r
  | closeTill p f => exact takeRequest_press h fun r u awake => closeTillReply_press p awake r
  | pay p f => exact takeRequest_press h fun r u awake => payReply_press p awake r
  | forceCloseTill p f => exact takeRequest_press h fun r u awake => forceCloseTillReply_press p awake r
  | setPayoutLimits p f => exact takeRequest_press_kept h fun _ _ => rfl
  | setGrade p f => exact takeRequest_press_kept h fun r u => setGradeReply_press p r
  | removeGrade p f => exact takeRequest_press_kept h fun r u => removeGradeReply_press p r
  | deleteTare p f => exact takeRequest_press_kept h fun r u => deleteTareReply_press p r
  | setTareValidity p f => exact takeRequest_press_kept h fun _ _ => rfl
  | setBridge p f => exact takeRequest_press_kept h fun r u => setBridgeReply_press p r
  | setHeaderLine p f => exact takeRequest_press_kept h fun _ _ => rfl
  | setHeaderCell p f => exact takeRequest_press_kept h fun _ _ => rfl
  | setPrinter p f => exact takeRequest_press h fun r u awake => setPrinterReply_press p awake r
  | setClock p f => exact takeRequest_press_kept h fun _ _ => rfl
  | alignMinute p f => exact takeRequest_press_kept h fun r u => alignMinuteReply_press p r
  | voidTicket p f => exact takeRequest_press h fun r u awake => voidTicketReply_press p awake r
  | dayClose p f => exact takeRequest_press h fun r u awake => dayCloseReply_press p awake r
  | copy p f => exact takeRequest_press h fun r u awake => copyReply_press p awake r
  | discardJob p f => exact takeRequest_press h fun r u awake => discardJobReply_press p awake r
  | queryTicket p f => exact takeRequest_press_kept h fun r u => queryTicketReply_press p r
  | listTickets p f => exact takeRequest_press_kept h fun _ _ => rfl
  | queryBridge p f => exact takeRequest_press_kept h fun _ _ => rfl
  | queryGrade p f => exact takeRequest_press_kept h fun r u => queryGradeReply_press p r
  | queryTare p f => exact takeRequest_press_kept h fun r u => queryTareReply_press p r
  | queryTill p f => exact takeRequest_press_kept h fun _ _ => rfl
  | queryPrinter p f => exact takeRequest_press_kept h fun _ _ => rfl
  | queryJournal p f => exact takeRequest_press_kept h fun r u => queryJournalReply_press p r
  | queryTotals p f => exact takeRequest_press_kept h fun r u => queryTotalsReply_press p r
  | badFrame p cls => exact .of_eq (Host.Outcome.next.inj h ▸ takeFrame_answer_press p s _)
  | badClass p cls => exact .of_eq (Host.Outcome.next.inj h ▸ takeFrame_answer_press p s _)
  | interByteTimeout p => exact .of_eq (execInterByteTimeout_press h)
  | breakCondition p => exact .of_eq (execBreakCondition_press h)
  | answerTransmitted p => exact .of_eq (execAnswerTransmitted_press h)
  | sampleEvent b raw status => exact execSampleEvent_press h
  | badSampleFrame b => exact execBadSampleFrame_press h
  | sampleGapTimeout b => exact execBadSampleFrame_press h
  | staleTimerExpiry b => exact execStaleTimerExpiry_press h
  | beamEvent b e high => exact execBeamEvent_press h
  | motionDeadline b => exact execMotionDeadline_press h
  | statusReady p => exact execStatusReady_press h
  | statusDone p => exact execStatusDone_press h
  | statusBusy p => exact execStatusBusy_press h
  | faultByte p r => exact execFaultByte_press h
  | lineTimerExpiry p => exact execLineTimerExpiry_press h
  | jobStart p => exact .of_eq (congrArg State.press (execJobStart_idle idle h))
  | secondBoundary => exact .of_eq (Host.Outcome.next.inj h ▸ rfl)
  | mainReset cause => exact execMainReset_press h
  | mainResetRelease pins => exact execMainResetRelease_press h
  | backupPowerOnReset => exact absurd rfl powered
  | consoleReceivedByte p b => exact absurd rfl (notByte p b)
  | indicatorReceivedByte b x => exact execIndicatorReceivedByte_press h

/-- A complete frame is neither a console byte, nor a job start, nor a reset. -/
theorem isFrame_only {c : Instr} (frame : c.isFrame = true) (s : State) :
    (∀ p b, c ≠ .consoleReceivedByte p b) ∧ s.startsJob c = false ∧ c ≠ .backupPowerOnReset := by
  refine ⟨fun p b is => ?_, ?_, fun is => ?_⟩
  · rw [is] at frame
    contradiction
  · cases c with
    | jobStart p => contradiction
    | _ => rfl
  · rw [is] at frame
    contradiction

/-- What a command makes of the print works where it starts no job and is no backup power-on reset. -/
theorem exec_press {c : Instr} {s t : State} (idle : s.startsJob c = false) (powered : c ≠ .backupPowerOnReset)
    (h : exec c s = .next t) : s.press.Change t.press := by
  by_cases byte : ∃ p b, c = .consoleReceivedByte p b
  · obtain ⟨p, b, rfl⟩ := byte
    rcases execConsoleReceivedByte_cases h with ⟨x, rfl⟩ | ⟨d, frame, runs⟩
    · exact .kept
    · obtain ⟨notByte, idle, powered⟩ := isFrame_only frame s
      exact exec_press_unless_byte notByte idle powered runs
  · exact exec_press_unless_byte (fun p b is => byte ⟨p, b, is⟩) idle powered h

/-- What a command makes of the print works where it starts a job. -/
theorem exec_press_starts {c : Instr} {s t : State} (starts : s.startsJob c = true) (h : exec c s = .next t) :
    s.press.Starts t.press := by
  cases c with
  | jobStart p => exact execJobStart_starts starts h
  | _ => contradiction

end Sys2Proof.Machine
end

section
/-! PROOFS. Every step keeps the printer ports, their queues and the open serials sound (07 R127, R131, 08 R152). -/

namespace Sys2Proof.Machine

/-- 07 R131, 08 R152, `State.PrintersSound` of the print works: outside main reset every port runs and its open serial is its
head's; in reset no port holds a job. -/
structure Press.Sound (r : Press) : Prop where
  awake : r.inReset = false → ∀ p, (r.printers.get p).Running p ∧ r.openSerials.get p = (r.printers.get p).headSerial
  asleep : r.inReset = true → ∀ p, (r.printers.get p).Lawful p ∧ (r.printers.get p).queue = []

theorem State.printersSound_iff (s : State) : s.PrintersSound ↔ s.press.Sound := by
  constructor
  · intro h
    refine ⟨fun awake p => ?_, fun reset p => ?_⟩
    · obtain ⟨sound, running, -⟩ := h p
      obtain ⟨serial, timed⟩ := running awake
      exact ⟨⟨((s.printer p).sound_iff p).mp sound, timed⟩, serial⟩
    · obtain ⟨sound, -, empty⟩ := h p
      exact ⟨((s.printer p).sound_iff p).mp sound, empty reset⟩
  · intro h p
    cases reset : s.inReset with
    | false =>
      obtain ⟨running, serial⟩ := h.awake reset p
      exact ⟨((s.printer p).sound_iff p).mpr running.lawful, fun _ => ⟨serial, running.timed⟩, fun is => by
        rw [is] at reset
        contradiction⟩
    | true =>
      obtain ⟨lawful, empty⟩ := h.asleep reset p
      exact ⟨((s.printer p).sound_iff p).mpr lawful, fun is => by
        rw [is] at reset
        contradiction, fun _ => empty⟩

/-- One port moved on, with its open serial. -/
theorem Press.Sound.move {r q : Press} {p : Port} {y : Printer} {serial : Option Nat} (h : r.Sound) (awake : r.inReset = false)
    (becomes : (r.printers.get p).Becomes p serial y) (still : q.inReset = r.inReset)
    (printers : q.printers = r.printers.set p y) (serials : q.openSerials = r.openSerials.set p serial) : q.Sound where
  awake _ k := by
    obtain ⟨running, carried⟩ := becomes (h.awake awake p).1
    rw [printers, serials, Four.get_set, Four.get_set]
    split
    · rename_i same
      exact ⟨same ▸ running, carried.symm⟩
    · exact h.awake awake k
  asleep reset := by
    rw [still, awake] at reset
    contradiction

/-! ### Resets (11 R202, R203) -/

/-- 07 R130, R146: a port stopped by main reset. -/
theorem Printer.lost_lawful (p : Port) (x : Printer) : x.lost.Lawful p where
  queued := .nil p
  faulty := by
    unfold Printer.lost
    cases x.present <;> simp
  stage := by
    unfold Printer.lost
    cases x.present <;> exact .empty (by simp) (by simp)
  missing absent := ⟨if_neg (by rw [show x.present = false from absent]; simp), rfl⟩
  here present := by
    unfold Printer.lost
    simp [show x.present = true from present]

/-- 07 R146: a port brought up by the release. -/
theorem releasedPrinter_running (p : Port) (present : Bool) (width timeout : Nat) :
    (releasedPrinter present width timeout).Running p ∧ (releasedPrinter present width timeout).headSerial = none := by
  cases present with
  | true =>
    exact ⟨⟨⟨.nil p, by simp [releasedPrinter], .empty (st := .unknown) (by simp) (by simp), by simp [releasedPrinter],
      by simp [releasedPrinter]⟩, by simp [Printer.Timed, releasedPrinter]⟩, rfl⟩
  | false =>
    exact ⟨⟨⟨.nil p, by simp [releasedPrinter], .empty (st := .absent) (by simp) (by simp), by simp [releasedPrinter],
      by simp [releasedPrinter]⟩, by simp [Printer.Timed, releasedPrinter]⟩, rfl⟩

theorem Press.interrupt_openSerials (r : Press) (p q : Port) :
    (r.interrupt p).openSerials.get q = if q = p then none else r.openSerials.get q := by
  unfold Press.interrupt
  split
  · rename_i closed
    split
    · rw [‹q = p›, closed]
    · rfl
  · exact Four.get_set _ _ _ _

/-- 08 R154: a release leaves no open serial. -/
theorem Press.release_openSerials (r : Press) (pins : ReleasePins) (p : Port) : (r.release pins).openSerials.get p = none := by
  show ((((r.interrupt 0).interrupt 1).interrupt 2).interrupt 3).openSerials.get p = none
  simp only [Press.interrupt_openSerials]
  fin_cases p <;> rfl

theorem Press.Sound.release {r : Press} (pins : ReleasePins) : (r.release pins).Sound where
  awake _ p := by
    obtain ⟨running, serial⟩ := releasedPrinter_running p (pins.printerStraps.get p)
      (((((r.interrupt 0).interrupt 1).interrupt 2).interrupt 3).printers.get p).width
      (((((r.interrupt 0).interrupt 1).interrupt 2).interrupt 3).printers.get p).timeout
    rw [Press.release_openSerials]
    rw [Press.release, Four.get_ofFn]
    exact ⟨running, serial.symm⟩
  asleep reset := nomatch reset

theorem Press.Sound.lose (r : Press) : r.lose.Sound where
  awake reset := nomatch reset
  asleep _ p := by
    rw [Press.lose, Four.get_ofFn]
    exact ⟨Printer.lost_lawful p _, rfl⟩

theorem Press.Sound.defaults {r : Press} (h : r.Sound) (reset : r.inReset = true) : r.defaults.Sound where
  awake awake := by
    rw [show r.inReset = false from awake] at reset
    contradiction
  asleep _ p := by
    obtain ⟨lawful, empty⟩ := h.asleep reset p
    rw [Press.defaults, Four.get_ofFn]
    exact ⟨{ lawful with }, empty⟩

/-! ### Every step -/

theorem Press.Sound.of_change {r q : Press} (h : r.Sound) (change : r.Change q) : q.Sound := by
  have same {p : Port} (awake : r.inReset = false) : r.openSerials.set p (r.printers.get p).headSerial = r.openSerials := by
    rw [← (h.awake awake p).2, Four.set_get]
  cases change with
  | kept => exact h
  | moved awake becomes => exact h.move awake becomes rfl rfl (same awake).symm
  | restarted awake head becomes => exact h.move awake becomes rfl rfl (head ▸ (same awake).symm)
  | ended awake final head becomes => exact h.move awake becomes rfl rfl rfl
  | lost awake => exact .lose r
  | released pins reset => exact .release pins

theorem Press.Sound.of_starts {r q : Press} (h : r.Sound) (starts : r.Starts q) : q.Sound := by
  cases starts with
  | start e awake queue queued becomes => exact h.move awake becomes rfl rfl rfl

theorem exec_press_sound {c : Instr} {s t : State} (sound : s.press.Sound) (h : exec c s = .next t) : t.press.Sound := by
  by_cases powered : c = .backupPowerOnReset
  · subst powered
    rw [execBackupPowerOnReset_press h]
    split
    · exact sound.defaults ‹_›
    · exact (Press.Sound.lose s.press).defaults rfl
  · cases starts : s.startsJob c with
    | true => exact sound.of_starts (exec_press_starts starts h)
    | false => exact sound.of_change (exec_press starts powered h)

/-- Settles O58: a start, a backup power-on reset, or a change of the print works, each of which keeps them sound. -/
theorem stepsKeepPrintersSound : Obligations.StepsKeepPrintersSound := by
  intro s t sound h
  rw [State.printersSound_iff] at sound ⊢
  unfold step at h
  split at h
  · exact Host.Outcome.next.inj h ▸ sound
  · rename_i c rest _
    exact exec_press_sound (s := { s with pending := rest }) sound h

end Sys2Proof.Machine
end

section
/-! PROOFS. What each event of a printer port does (07 R129 to R141, 08 R150 to R153): job starts, restarts, status bytes and the
line timer. -/

namespace Sys2Proof.Machine

/-! ### Job starts (07 R133, R134) -/

theorem exec_jobStart {p : Port} {job : Job} {rest : List Job} {s : State} (starts : s.startsJob (.jobStart p) = true)
    (queue : (s.printer p).queue = job :: rest) : exec (.jobStart p) s = .next (s.startJob p job) := by
  have condition : (s.printerHears p && (s.printer p).state == .ready && job.state == .queued) = true := by
    simpa [State.startsJob, State.printerHears, queue] using starts
  show execJobStart p s = _
  simp only [execJobStart, queue, condition, if_true]

/-- 07 R134: a start, by the ticket, the till and the amount of its journal entry. -/
theorem startJob_eq {s : State} {p : Port} {job : Job} {rest : List Job} {ticket : Option Nat} {till : Option Port}
    {amount : Option Nat} (queue : (s.printer p).queue = job :: rest) (named : job.snapshot.ticketNumber = ticket)
    (paid : journalTill job = till) (due : journalAmount job = amount) :
    s.startJob p job = { s.setPrinter p
        { s.printer p with
          state := .printing, fault := none, rendered := some (s.renderFor p s.serialCounter job)
          lineTimer := some (s.printer p).timeout
          sent := (s.printer p).sent ++ [.line ((s.renderFor p s.serialCounter job).headD [])]
          queue := { job with state := .printing, serial := some s.serialCounter, nextLine := some 0 } :: rest } with
      serialCounter := nextSerial s.serialCounter
      journal := journalPush s.journal
        { serial := s.serialCounter, kind := job.kind, port := p, outcome := .printing, restarts := 0, copyOf := job.copyOf
          ticket, till, amount }
      openSerials := s.openSerials.set p (some s.serialCounter) } := by
  subst named paid due
  simp only [State.startJob, Printer.setHead_cons queue]
  rfl

/-- Settles O39: the start, and the three fields of its entry by the kind and the snapshot of the job. -/
theorem jobStartTakesASerial : Obligations.JobStartTakesASerial := by
  intro p job rest s starts queue
  refine (exec_jobStart starts queue).trans (congrArg Host.Outcome.next (startJob_eq queue ?ticket ?till ?amount))
  case ticket => cases job.snapshot <;> rfl
  case till =>
    unfold journalTill
    cases job.kind <;> cases job.snapshot <;> rfl
  case amount =>
    unfold journalAmount
    cases job.kind <;> cases job.snapshot <;> rfl

/-! ### Status bytes and the line timer (07 R129, R130, R137 to R140) -/

theorem Printer.pauseHead_eq (x : Printer) : x.pauseHead = { x with
    queue := (x.queue.take 1).map (fun j => { j with state := .paused }) ++ x.queue.drop 1
    rendered := none } := by
  unfold Printer.pauseHead Printer.setHead
  cases x.queue <;> rfl

/-- 07 R129: no job is PAUSED at the head. -/
theorem State.readyOrRestart_unpaused {s : State} {p : Port}
    (unpaused : ∀ j ∈ (s.printer p).queue.head?, j.state ≠ .paused) :
    s.readyOrRestart p = s.setPrinter p (s.printer p).ready := by
  unfold State.readyOrRestart
  split
  · rename_i job rest queue
    exact if_neg (unpaused job (by rw [queue]; rfl))
  · rfl

section Status

variable {p : Port} {s : State} (hears : s.printerHears p = true)
include hears

theorem exec_statusReady {st : PortState} (state : (s.printer p).state = st) : exec (.statusReady p) s = .next (match st with
    | .unknown => s.setPrinter p (s.printer p).ready
    | .offline | .faulted => s.readyOrRestart p
    | .late => s.restartLate p
    | .absent | .ready | .printing => s) := by
  show execStatusReady p s = _
  simp only [execStatusReady, hears, state]
  cases st <;> rfl

theorem exec_statusDone (busy : (s.printer p).inJob = true) {job : Job} {rest : List Job}
    (queue : (s.printer p).queue = job :: rest) :
    exec (.statusDone p) s = .next (s.acknowledge p job ((s.printer p).rendered.getD [])) := by
  show execStatusDone p s = _
  simp only [execStatusDone, hears, busy, queue, Bool.and_self, if_true]

omit hears in
theorem exec_statusDone_free (free : (s.printer p).inJob = false) : exec (.statusDone p) s = .next s := by
  show execStatusDone p s = _
  simp only [execStatusDone, free, Bool.and_false, Bool.false_eq_true, if_false]

theorem exec_statusBusy (busy : (s.printer p).inJob = true) : exec (.statusBusy p) s = .next
    (s.setPrinter p { s.printer p with state := .printing, lineTimer := some (s.printer p).timeout }) := by
  show execStatusBusy p s = _
  simp only [execStatusBusy, hears, busy, Bool.and_self, if_true]
  rfl

omit hears in
theorem exec_statusBusy_free (free : (s.printer p).inJob = false) : exec (.statusBusy p) s = .next s := by
  show execStatusBusy p s = _
  simp only [execStatusBusy, free, Bool.and_false, Bool.false_eq_true, if_false]

theorem exec_faultByte (r : FaultReason) : exec (.faultByte p r) s = .next (s.setPrinter p
    ((if (s.printer p).inJob then (s.printer p).pauseHead else s.printer p).faulted r)) := by
  show execFaultByte p r s = _
  simp only [execFaultByte, hears, Bool.not_true, Bool.false_eq_true, if_false]
  split <;> rfl

theorem exec_lineTimerExpiry {st : PortState} (running : (s.printer p).lineTimer.isSome = true)
    (state : (s.printer p).state = st) : exec (.lineTimerExpiry p) s = .next (match st with
      | .unknown | .offline | .faulted => s.setPrinter p ((s.printer p).send .probe)
      | .printing => s.setPrinter p ({ s.printer p with state := .late }.send .probe)
      | .late => s.setPrinter p ({ (s.printer p).pauseHead with state := .offline }.send .probe)
      | .absent | .ready => s) := by
  show execLineTimerExpiry p s = _
  simp only [execLineTimerExpiry, hears, running, state]
  cases st <;> rfl

end Status

/-- Settles O41, byte by byte and by the state of the port. -/
theorem printerStatusAndTimeouts : Obligations.PrinterStatusAndTimeouts := by
  intro p s hears
  refine ⟨fun r => ?fault, fun status => ?ready, fun status => ?ignoredReady, fun free => ?ignoredDone,
    fun running status => ?probe, fun running state => ?late, fun running state => ?offline⟩
  case fault =>
    rw [exec_faultByte hears]
    simp only [← Printer.inJob_iff]
    split
    · rw [Printer.pauseHead_eq]
      rfl
    · rfl
  case ready =>
    rcases status with state | ⟨state | state, unpaused⟩
    · exact exec_statusReady hears state
    · exact (exec_statusReady hears state).trans (congrArg Host.Outcome.next (State.readyOrRestart_unpaused unpaused))
    · exact (exec_statusReady hears state).trans (congrArg Host.Outcome.next (State.readyOrRestart_unpaused unpaused))
  case ignoredReady =>
    rcases status with state | state
    · exact exec_statusReady hears state
    · exact exec_statusReady hears state
  case ignoredDone =>
    have idle : (s.printer p).inJob = false := by simpa [Printer.inJob] using free
    exact ⟨exec_statusDone_free idle, exec_statusBusy_free idle⟩
  case probe =>
    rcases status with state | state | state
    · exact exec_lineTimerExpiry hears running state
    · exact exec_lineTimerExpiry hears running state
    · exact exec_lineTimerExpiry hears running state
  case late => exact exec_lineTimerExpiry hears running state
  case offline =>
    rw [exec_lineTimerExpiry hears running state, Printer.pauseHead_eq]
    rfl

/-! ### Restarts (07 R138, R141) -/

theorem restartJob_eq {s : State} {p : Port} {job : Job} {rest : List Job} {n : Nat} (queue : (s.printer p).queue = job :: rest)
    (serial : job.serial = some n) : s.restartJob p job = { s.setPrinter p
        { s.printer p with
          state := .printing, fault := none, rendered := some (s.renderFor p n job.restarted)
          lineTimer := some (s.printer p).timeout
          sent := (s.printer p).sent ++ [.line ((s.renderFor p n job.restarted).headD [])], queue := job.restarted :: rest } with
      journal := journalUpdate s.journal n fun e => { e with restarts := nextRestart e.restarts } } := by
  unfold State.restartJob
  split
  · rename_i unstarted
    rw [serial] at unstarted
    contradiction
  · rename_i m started
    obtain rfl : n = m := Option.some.inj (serial.symm.trans started)
    simp only [Printer.setHead_cons queue]
    rfl

/-- Settles O42: in each of the three states READY restarts the head. -/
theorem pausedJobIsRestarted : Obligations.PausedJobIsRestarted := by
  intro p job rest n s hears queue serial status
  have restarted : exec (.statusReady p) s = .next (s.restartJob p job) := by
    have paused (held : job.state = .paused) : s.readyOrRestart p = s.restartJob p job := by
      simp only [State.readyOrRestart, queue, held, if_true]
    have late : s.restartLate p = s.restartJob p job := by simp only [State.restartLate, queue]
    rcases status with state | ⟨state | state, held⟩
    · exact (exec_statusReady hears state).trans (congrArg Host.Outcome.next late)
    · exact (exec_statusReady hears state).trans (congrArg Host.Outcome.next (paused held))
    · exact (exec_statusReady hears state).trans (congrArg Host.Outcome.next (paused held))
  exact restarted.trans (congrArg Host.Outcome.next (restartJob_eq queue serial))

end Sys2Proof.Machine
end

section
/-! PROOFS. The acknowledged lines of a receipt and its completion (07 R135, R136, R138, 02 R41), and the requests of the printer
ports (07 R142, R144). -/

namespace Sys2Proof.Machine

/-! ### One DONE byte -/

section Acknowledge

variable {s : State} {p : Port} {job : Job} {rest : List Job} {lines : List Text}
  (queue : (s.printer p).queue = job :: rest)

/-- 07 R135: a port that works on, its head at line `i`, with a message sent. -/
def Printer.worked (x : Printer) (job : Job) (rest : List Job) (i : Nat) (m : PrinterMessage) : Printer :=
  { x with
    state := .printing, lineTimer := some x.timeout, sent := x.sent ++ [m]
    queue := { job with nextLine := some i } :: rest }

include queue

theorem acknowledge_next {k : Nat} {text : Text} (line : job.nextLine = some k) (next : lines[k + 1]? = some text) :
    s.acknowledge p job lines = s.setPrinter p ((s.printer p).worked job rest (k + 1) (.line text)) := by
  have more : k < lines.length := Nat.lt_of_succ_lt (List.getElem?_eq_some_iff.mp next).1
  simp only [State.acknowledge, line, Option.getD_some, more, if_true, next,
    Printer.setHead_cons (x := { s.printer p with state := .printing }) queue]
  rfl

theorem acknowledge_cut {k : Nat} (line : job.nextLine = some k) (last : k + 1 = lines.length) :
    s.acknowledge p job lines = s.setPrinter p ((s.printer p).worked job rest lines.length .cut) := by
  have more : k < lines.length := by omega
  have beyond : lines[k + 1]? = none := List.getElem?_eq_none (by omega)
  simp only [State.acknowledge, line, Option.getD_some, more, if_true, beyond,
    Printer.setHead_cons (x := { s.printer p with state := .printing }) queue]
  rfl

omit queue in
theorem acknowledge_all (line : job.nextLine = some lines.length) : s.acknowledge p job lines = s.completeJob p job := by
  simp only [State.acknowledge, line, Option.getD_some, Nat.lt_irrefl, if_false]

end Acknowledge

/-! ### Completion (07 R136, 02 R41) -/

/-- 02 R41: the ticket table with the serial of a completed job recorded. -/
def State.recorded (s : State) (job : Job) (n : Nat) : List (Option Ticket) :=
  match job.snapshot.ticketNumber.bind s.findTicket with
  | none => s.tickets
  | some (i, t) => s.tickets.set i (some (recordSerial job.kind n t))

theorem State.recordCompletion_eq (s : State) (job : Job) (n : Nat) :
    s.recordCompletion job n = { s with tickets := s.recorded job n } := by
  unfold State.recordCompletion State.recorded
  cases job.snapshot.ticketNumber with
  | none => rfl
  | some number =>
    dsimp only [Option.bind_some]
    cases s.findTicket number with
    | none => rfl
    | some x => rfl

/-- 07 R136: a completion, by the ticket table it leaves. -/
theorem completeJob_eq {s : State} {p : Port} {job : Job} {rest : List Job} {n : Nat} {tickets : List (Option Ticket)}
    (queue : (s.printer p).queue = job :: rest) (serial : job.serial = some n) (recorded : s.recorded job n = tickets) :
    s.completeJob p job =
      { s.setPrinter p { s.printer p with
          state := .ready, fault := none, lineTimer := none, queue := rest, rendered := none } with
        journal := journalUpdate s.journal n fun e => { e with outcome := .complete }
        openSerials := s.openSerials.set p none
        day := { s.day with completed := satAdd s.day.completed 1 }
        grand := { s.grand with completed := satAdd s.grand.completed 1 }
        tickets := tickets } := by
  subst recorded
  simp only [State.completeJob, queue, serial, State.recordCompletion_eq]
  rfl

/-- 02 R41: a serial recorded, by the kind of the job and the state of the ticket. -/
theorem recordSerial_eq (kind : JobKind) (n : Nat) (t : Ticket) : recordSerial kind n t = match kind with
    | .settleSlip => if t.state = .loaded then t
        else { t with settlement := t.settlement.map fun y => { y with slipSerial := some n } }
    | .payReceipt | .payVoucher => if t.state = .paid then
        { t with payment := t.payment.map fun y =>
            { y with receiptSerial := if y.receiptSerial.isSome then y.receiptSerial else some n } }
        else t
    | _ => t := by
  have kept (y : Payment) : y.receiptSerial.or (some n) = if y.receiptSerial.isSome then y.receiptSerial else some n := by
    cases y.receiptSerial <;> rfl
  simp only [← kept]
  cases kind <;> rfl

/-- 07 R135, R138: DONE taken for the job in progress, whose rendering is `lines`. -/
theorem exec_statusDone_rendered {p : Port} {job : Job} {rest : List Job} {lines : List Text} {s : State}
    (hears : s.printerHears p = true) (busy : (s.printer p).inJob = true) (queue : (s.printer p).queue = job :: rest)
    (rendered : (s.printer p).rendered = some lines) :
    exec (.statusDone p) s = .next (s.acknowledge p job lines) := by
  rw [exec_statusDone hears busy queue, rendered]
  rfl

/-! ### A whole receipt (07 R135, R136) -/

/-- Port `p` prints `lines` under serial `n`, line `k` on its way. -/
structure State.Prints (s : State) (p : Port) (job : Job) (rest : List Job) (lines : List Text) (n k : Nat) : Prop where
  hears : s.printerHears p = true
  state : (s.printer p).state = .printing
  queue : (s.printer p).queue = job :: rest
  rendered : (s.printer p).rendered = some lines
  serial : job.serial = some n
  line : job.nextLine = some k

/-- The messages that follow line `k` of a receipt, the cut having number `lines.length`. -/
def messagesAfter (lines : List Text) (k : Nat) : List PrinterMessage :=
  if k < lines.length then (lines.drop (k + 1)).map .line ++ [.cut] else []

theorem messagesAfter_next {lines : List Text} {k : Nat} {line : Text} (next : lines[k + 1]? = some line) :
    messagesAfter lines k = .line line :: messagesAfter lines (k + 1) := by
  obtain ⟨within, here⟩ := List.getElem?_eq_some_iff.mp next
  rw [messagesAfter, messagesAfter, if_pos within, if_pos (Nat.lt_of_succ_lt within), List.drop_eq_getElem_cons within, here]
  rfl

theorem messagesAfter_last {lines : List Text} {k : Nat} (last : k + 1 = lines.length) : messagesAfter lines k = [.cut] := by
  rw [messagesAfter, if_pos (by omega), List.drop_eq_nil_of_le (by omega)]
  rfl

theorem messagesAfter_all (lines : List Text) : messagesAfter lines lines.length = [] := if_neg (Nat.lt_irrefl _)

/-- 07 R136: port `p` has sent `sent` and completed its job; the commands `after` wait. -/
structure State.Finished (t : State) (p : Port) (sent : List PrinterMessage) (rest : List Job) (after : List Instr) : Prop where
  sent : (t.printer p).sent = sent
  queue : (t.printer p).queue = rest
  ready : (t.printer p).state = .ready
  closed : t.openSerials.get p = none
  pending : t.pending = after

section Prints

variable {s : State} {p : Port} {job : Job} {rest : List Job} {lines : List Text} {n k : Nat}

theorem State.Prints.withPending (h : s.Prints p job rest lines n k) (pending : List Instr) :
    { s with pending }.Prints p job rest lines n k := { h with }

/-- A message sent and the next line on its way. -/
theorem State.Prints.worked (h : s.Prints p job rest lines n k) (i : Nat) (m : PrinterMessage) :
    (s.setPrinter p ((s.printer p).worked job rest i m)).Prints p { job with nextLine := some i } rest lines n i where
  hears := by
    have hears := h.hears
    rw [State.printerHears_iff] at hears ⊢
    rw [State.printer_setPrinter_self]
    exact hears
  state := by rw [State.printer_setPrinter_self]; rfl
  queue := by rw [State.printer_setPrinter_self]; rfl
  rendered := by rw [State.printer_setPrinter_self]; exact h.rendered
  serial := h.serial
  line := rfl

theorem State.Prints.done (h : s.Prints p job rest lines n k) :
    exec (.statusDone p) s = .next (s.acknowledge p job lines) :=
  exec_statusDone_rendered h.hears (by simp [Printer.inJob, h.state]) h.queue h.rendered

/-- 07 R135: DONE before the last message sends the next one, a line or the cut. -/
theorem State.Prints.sends (h : s.Prints p job rest lines n k) (more : k < lines.length) :
    ∃ m, messagesAfter lines k = m :: messagesAfter lines (k + 1)
      ∧ s.acknowledge p job lines = s.setPrinter p ((s.printer p).worked job rest (k + 1) m) := by
  by_cases last : k + 1 = lines.length
  · refine ⟨.cut, ?_, ?_⟩
    · rw [messagesAfter_last last, last, messagesAfter_all]
    · rw [acknowledge_cut h.queue h.line last, last]
  · have next : lines[k + 1]? = some lines[k + 1] := List.getElem?_eq_getElem (by omega)
    exact ⟨_, messagesAfter_next next, acknowledge_next h.queue h.line next⟩

/-- 07 R136: DONE after the cut completes the job. -/
theorem State.Prints.completes (h : s.Prints p job rest lines n lines.length) :
    (s.acknowledge p job lines).Finished p (s.printer p).sent rest s.pending := by
  rw [acknowledge_all h.line, completeJob_eq h.queue h.serial rfl]
  exact
    { sent := by simp [State.printer, State.setPrinter]
      queue := by simp [State.printer, State.setPrinter]
      ready := by simp [State.printer, State.setPrinter]
      closed := Four.get_set_self _ _ _
      pending := rfl }

/-- A step that continues, and the run from there. -/
theorem run_succ_of_step {m : Nat} {u v w : core.State} (first : core.step u = .next v)
    (others : Host.Core.run core m v = .next w) : Host.Core.run core (m + 1) u = .next w := by
  rw [Host.Core.run, first]
  exact others

/-- 07 R135, R136: `m + 1` DONE bytes complete a receipt of which `m` messages are still to be sent. -/
theorem run_done (after : List Instr) (m : Nat) (h : s.Prints p job rest lines n k) (left : k + m = lines.length) :
    ∃ t, Host.Core.run core (m + 1) { s with pending := List.replicate (m + 1) (.statusDone p) ++ after } = .next t
      ∧ t.Finished p ((s.printer p).sent ++ messagesAfter lines k) rest after := by
  induction m generalizing s job k with
  | zero =>
    obtain rfl : k = lines.length := left
    rw [messagesAfter_all, List.append_nil]
    exact ⟨_, run_succ_of_step (h.withPending after).done rfl, (h.withPending after).completes⟩
  | succ m ih =>
    obtain ⟨message, messages, sends⟩ :=
      (h.withPending (List.replicate (m + 1) (.statusDone p) ++ after)).sends (by omega)
    have first := (h.withPending (List.replicate (m + 1) (.statusDone p) ++ after)).done
    rw [sends] at first
    obtain ⟨t, others, finished⟩ := ih (h.worked (k + 1) message) (by omega)
    refine ⟨t, run_succ_of_step first others, ?_⟩
    rw [State.printer_setPrinter_self] at finished
    rw [messages, List.append_cons]
    exact finished

end Prints

/-- Settles O40: one byte by the messages still to be sent, a whole receipt by their number. -/
theorem acknowledgedLinesAndCompletion : Obligations.AcknowledgedLinesAndCompletion := by
  refine ⟨fun p job rest lines k s hears status queue rendered line => ?byte,
    fun p job rest lines n after s hears state queue rendered lined line serial => ?receipt⟩
  case byte =>
    have busy := ((s.printer p).inJob_iff).mpr status
    have done := exec_statusDone_rendered hears busy queue rendered
    refine ⟨exec_statusBusy hears busy, fun text next => ?next, fun last => ?cut, fun n all serial => ?complete⟩
    case next => exact done.trans (congrArg Host.Outcome.next (acknowledge_next queue line next))
    case cut => exact done.trans (congrArg Host.Outcome.next (acknowledge_cut queue line last))
    case complete =>
      have finished : s.acknowledge p job lines = s.completeJob p job := acknowledge_all (all ▸ line)
      refine (done.trans (congrArg Host.Outcome.next finished)).trans
        (congrArg Host.Outcome.next (completeJob_eq queue serial ?recorded))
      unfold State.recorded
      cases job.snapshot.ticketNumber.bind s.findTicket with
      | none => rfl
      | some found => exact congrArg (fun t => s.tickets.set found.1 (some t)) (recordSerial_eq job.kind n found.2)
  case receipt =>
    have prints : s.Prints p job rest lines n 0 := ⟨hears, state, queue, rendered, serial, line⟩
    obtain ⟨t, runs, finished⟩ := run_done after lines.length prints (Nat.zero_add _)
    refine ⟨t, runs, ?_, finished.queue, finished.ready, finished.closed, finished.pending⟩
    rw [finished.sent, messagesAfter, if_pos (List.length_pos_of_ne_nil lined), List.append_assoc]

/-! ### Requests (07 R142, R144) -/

section Discard

variable {p : Port} {s : State} {job : Job} {rest : List Job}

theorem discardJobReply_noJob
    (nothing : (s.printer p).queue = [] ∨ ∃ job rest, (s.printer p).queue = job :: rest ∧ job.state = .printing) :
    discardJobReply p () s = .refuse .noJob := by
  rcases nothing with empty | ⟨job, rest, queue, state⟩
  · simp only [discardJobReply, empty]
  · simp only [discardJobReply, queue, state]

theorem State.removeHead_eq (queue : (s.printer p).queue = job :: rest) :
    s.removeHead p = s.setPrinter p { s.printer p with queue := rest } := by
  rw [State.removeHead, queue]
  rfl

theorem discardJobReply_queued (queue : (s.printer p).queue = job :: rest) (state : job.state = .queued) :
    discardJobReply p () s = .done (discardFields job rest.length) (s.setPrinter p { s.printer p with queue := rest }) := by
  rw [← State.removeHead_eq queue]
  simp only [discardJobReply, queue, state]

theorem discardJobReply_paused {n : Nat} (queue : (s.printer p).queue = job :: rest) (state : job.state = .paused)
    (serial : job.serial = some n) : discardJobReply p () s = .done (discardFields job rest.length)
      ((s.setPrinter p { s.printer p with queue := rest }).endReceipt p n .abandoned) := by
  rw [← State.removeHead_eq queue]
  simp only [discardJobReply, queue, state, serial]

end Discard

/-- Settles O43: each reply is of the queue or the port alone, which the console's receiver is no part of. -/
theorem discardJobAndSetPrinter : Obligations.DiscardJobAndSetPrinter := by
  intro p s ready
  have permitted := State.ReadyAs.anyRole ready
  refine ⟨fun nothing => ?noJob, fun job rest queue => ⟨fun state => ?queued, fun n state serial => ?paused⟩,
    fun fields r decoded office => ?setPrinter⟩
  case noJob => exact takeRequest_refused ready permitted rfl (discardJobReply_noJob (s := s.idleReceiver p) nothing)
  case queued =>
    exact takeRequest_done (u := s.setPrinter p { s.printer p with queue := rest }) ready permitted rfl
      (discardJobReply_queued (s := s.idleReceiver p) queue state)
  case paused =>
    exact takeRequest_done (u := (s.setPrinter p { s.printer p with queue := rest }).endReceipt p n .abandoned) ready permitted
      rfl (discardJobReply_paused (s := s.idleReceiver p) queue state serial)
  case setPrinter =>
    exact takeRequest_done
      (u := s.setPrinter r.port { s.printer r.port with width := r.width, timeout := r.timeout }) ready
      (by rw [office]; rfl) decoded rfl

end Sys2Proof.Machine
end

section
/-! PROOFS. DAY-CLOSE past its checks (02 R43, 03 R53, 05 R106, 08 R161 to R163). -/

namespace Sys2Proof.Machine

section DayClose

variable {s : State} {p : Port}

/-- 06 R111: the grade list of a day snapshot, entry by entry of its index. -/
theorem State.gradeRows_by_index (s : State) : ((List.range s.grades.length).filterMap fun i => (s.grades[i]?).bind fun g =>
    if 0 < g.dayLines then some (⟨i, (g.defn.map (·.name)).getD [], g.dayLines, g.dayKg, g.dayValue⟩ : GradeRow) else none)
    = s.gradeRows := by
  rw [filterMap_range_eq_zipIdx, State.gradeRows_eq, ← List.filterMap_eq_map, List.filterMap_filter]
  refine List.filterMap_congr fun x _ => ?_
  simp only [decide_eq_true_eq]
  rfl

/-- 02 R43: the table without the PAID and VOID tickets, slot by slot. -/
theorem freeFinished_eq (tickets : List (Option Ticket)) :
    freeFinished tickets = tickets.map fun slot => slot.bind fun t => if t.finished then none else some t := by
  refine List.map_congr_left fun slot _ => ?_
  cases slot with
  | none => rfl
  | some t => cases finished : t.finished <;> simp [Option.filter, finished]

/-- 08 R162: what a close answers: the day closed and the day begun, the tickets freed and kept, the place of the report. -/
def State.dayCloseFields (s : State) (p : Port) : List Byte :=
  Wire.num 2 s.day.businessDay ++ Wire.num 2 (nextBusinessDay s.day.businessDay)
    ++ Wire.num 1 ((entries s.tickets).filter Ticket.finished).length
    ++ Wire.num 1 ((entries s.tickets).filter fun t => !t.finished).length ++ s.nextPosition p

/-- 08 R161, R162: past its checks DAY-CLOSE closes the day. -/
theorem dayCloseReply_done {u : Unit} (passed : firstFailure (dayCloseChecks s p) = none) :
    dayCloseReply p u s = .done (s.dayCloseFields p) (s.closeDay p) := by
  rw [dayCloseChecks, firstFailure_cons, ← State.queueRefusal_eq] at passed
  split at passed
  · contradiction
  · rename_i closed
    have allClosed : s.tills.toList.any (·.isOpen) = false := by
      rw [← Bool.not_eq_true]
      simpa [Four.toList, State.till, Four.get, or_assoc] using closed
    have kept : entries (s.closeDay p).tickets = (entries s.tickets).filter fun t => !t.finished := entries_filter _ _
    have position : Wire.num 1 ((s.closeDay p).queuePosition p) = s.nextPosition p :=
      State.enqueue_position (newJob .dayReport p s.snapDay none)
    simp only [dayCloseReply, allClosed, passed, kept, position, List.countP_eq_length_filter]
    rfl

end DayClose

/-- Settles O44: the reply closes the day, which the console's receiver is no part of; the tables as their rules write them. -/
theorem dayCloseEndsTheDay : Obligations.DayCloseEndsTheDay := by
  intro p s ready passed rows next gone
  have closed : exec (.dayClose p []) s = .next ((s.closeDay p).answered p 0x3B .done (s.dayCloseFields p)) :=
    takeRequest_done (u := s.closeDay p) ready rfl noFields_nil (dayCloseReply_done (s := s.idleReceiver p) passed)
  have listed : rows = s.gradeRows := s.gradeRows_by_index
  rw [closed, listed, State.closeDay, freeFinished_eq]
  rfl

end Sys2Proof.Machine
end

section
/-! PROOFS. The journal under every command (07 R148, 08 R150 to R154): its serials stay in sequence, and an entry in a final
outcome is not changed. -/

namespace Sys2Proof.Machine

/-! ### Serials in sequence (08 R150, R151) -/

/-- A serial given is followed by the next one. -/
theorem serialsFollow_append {n : Nat} : ∀ {serials : List Nat}, serialsFollow n serials = true →
    serialsFollow (nextSerial n) (serials ++ [n]) = true
  | [], _ => by simp [serialsFollow]
  | [a], h => by simpa [serialsFollow] using h
  | a :: b :: rest, h => by
    obtain ⟨first, later⟩ := (Bool.and_eq_true _ _).mp h
    exact (Bool.and_eq_true _ _).mpr ⟨first, serialsFollow_append (serials := b :: rest) later⟩

theorem serialsFollow_tail {n : Nat} {serials : List Nat} (h : serialsFollow n serials = true) :
    serialsFollow n serials.tail = true := by
  match serials, h with
  | [], h => exact h
  | [a], _ => rfl
  | a :: b :: rest, h => exact ((Bool.and_eq_true _ _).mp h).2

theorem journalPush_eq (ring : List JournalEntry) (e : JournalEntry) :
    journalPush ring e = (if ring.length < 256 then ring else ring.tail) ++ [e] := by
  rw [← List.drop_one]
  rfl

/-- 08 R150, R151: an entry under the serial of the counter continues the sequence. -/
theorem journalPush_serialsFollow {ring : List JournalEntry} {n : Nat} {e : JournalEntry}
    (sequence : serialsFollow n (ring.map (·.serial)) = true) (serial : e.serial = n) :
    serialsFollow (nextSerial n) ((journalPush ring e).map (·.serial)) = true := by
  rw [journalPush_eq, List.map_append, List.map_singleton, serial]
  refine serialsFollow_append ?_
  split
  · exact sequence
  · rw [List.map_tail]
    exact serialsFollow_tail sequence

/-- 08 R151: an entry of the ring stays under a new one, unless it is the oldest of a full ring. -/
theorem mem_journalPush {ring : List JournalEntry} {e new : JournalEntry} (short : ring.length ≤ 256) (held : e ∈ ring) :
    e ∈ journalPush ring new ∨ ring.length = 256 ∧ ring.head? = some e := by
  rw [journalPush_eq, List.mem_append]
  split
  · exact .inl (.inl held)
  · obtain ⟨oldest, rest, rfl⟩ := List.exists_cons_of_ne_nil (List.ne_nil_of_mem held)
    rcases List.mem_cons.mp held with rfl | later
    · exact .inr ⟨by omega, rfl⟩
    · exact .inl (.inl later)

/-! ### Entries amended (08 R153) -/

/-- The ring with its serials as they were, and its entries in a final outcome unchanged. -/
structure Amended (before after : List JournalEntry) : Prop where
  serials : after.map (·.serial) = before.map (·.serial)
  final : ∀ e ∈ before, e.outcome ≠ .printing → e ∈ after

theorem Amended.refl (ring : List JournalEntry) : Amended ring ring := ⟨rfl, fun _ held _ => held⟩

theorem Amended.trans {x y z : List JournalEntry} (h : Amended x y) (g : Amended y z) : Amended x z :=
  ⟨g.serials.trans h.serials, fun e held final => g.final e (h.final e held final) final⟩

theorem Amended.length_eq {before after : List JournalEntry} (h : Amended before after) : after.length = before.length := by
  simpa using congrArg List.length h.serials

/-- 08 R153: only the entry of a serial, in PRINTING, takes a change. -/
theorem journalUpdate_amended {f : JournalEntry → JournalEntry} (serial : ∀ e, (f e).serial = e.serial)
    (ring : List JournalEntry) (n : Nat) : Amended ring (journalUpdate ring n f) :=
  ⟨journalUpdate_serials ring n f serial, fun _ => journalUpdate_final⟩

theorem Press.endReceipt_amended (r : Press) (p : Port) (n : Nat) (o : JournalOutcome) :
    Amended r.journal (r.endReceipt p n o).journal :=
  journalUpdate_amended (f := fun e => { e with outcome := o }) (fun _ => rfl) r.journal n

theorem Press.interrupt_amended (r : Press) (p : Port) :
    (r.interrupt p).serialCounter = r.serialCounter ∧ Amended r.journal (r.interrupt p).journal := by
  unfold Press.interrupt
  split
  · exact ⟨rfl, .refl _⟩
  · exact ⟨rfl, r.endReceipt_amended p _ .interrupted⟩

/-- 08 R154: a release interrupts the open serials one port after the other. -/
theorem Press.release_amended (r : Press) (pins : ReleasePins) :
    (r.release pins).serialCounter = r.serialCounter ∧ Amended r.journal (r.release pins).journal := by
  obtain ⟨counter₀, amended₀⟩ := r.interrupt_amended 0
  obtain ⟨counter₁, amended₁⟩ := (r.interrupt 0).interrupt_amended 1
  obtain ⟨counter₂, amended₂⟩ := ((r.interrupt 0).interrupt 1).interrupt_amended 2
  obtain ⟨counter₃, amended₃⟩ := (((r.interrupt 0).interrupt 1).interrupt 2).interrupt_amended 3
  exact ⟨counter₃.trans (counter₂.trans (counter₁.trans counter₀)),
    amended₀.trans (amended₁.trans (amended₂.trans amended₃))⟩

/-- A command that starts no job gives no serial, and amends the journal at most. -/
theorem Press.Change.amended {r q : Press} (change : r.Change q) :
    q.serialCounter = r.serialCounter ∧ Amended r.journal q.journal := by
  cases change with
  | kept => exact ⟨rfl, .refl _⟩
  | moved => exact ⟨rfl, .refl _⟩
  | restarted =>
    exact ⟨rfl, journalUpdate_amended (f := fun e => { e with restarts := nextRestart e.restarts }) (fun _ => rfl) _ _⟩
  | @ended p y n o => exact ⟨rfl, (r.setPrinter p y).endReceipt_amended p n o⟩
  | lost => exact ⟨rfl, .refl _⟩
  | released pins => exact r.release_amended pins

/-! ### Every command -/

theorem State.JournalSound.amended {s t : State} (sound : s.JournalSound) (counter : t.serialCounter = s.serialCounter)
    (journal : Amended s.journal t.journal) : t.JournalSound := by
  unfold State.JournalSound
  rw [journal.length_eq, journal.serials, counter]
  exact sound

/-- 07 R134, 08 R150, R151: the entry of a job start, made under the serial of the counter. -/
theorem Press.Starts.pushed {r q : Press} (starts : r.Starts q) : ∃ e : JournalEntry, e.serial = r.serialCounter
    ∧ q.journal = journalPush r.journal e ∧ q.serialCounter = nextSerial r.serialCounter := by
  cases starts with
  | start e _ _ _ _ serial => exact ⟨e, serial, rfl, rfl⟩

theorem State.JournalSound.pushed {s t : State} {e : JournalEntry} (sound : s.JournalSound)
    (serial : e.serial = s.serialCounter) (journal : t.journal = journalPush s.journal e)
    (counter : t.serialCounter = nextSerial s.serialCounter) : t.JournalSound := by
  obtain ⟨short, sequence, range⟩ := sound
  unfold State.JournalSound
  rw [journal, counter]
  exact ⟨journalPush_length _ e short, journalPush_serialsFollow sequence serial, nextSerial_range range⟩

theorem execBackupPowerOnReset_journalSound {s t : State} (h : execBackupPowerOnReset s = .next t) : t.JournalSound := by
  obtain rfl := Host.Outcome.next.inj h
  exact ⟨Nat.zero_le 256, rfl, Nat.le_refl 1, Nat.one_le_ofNat⟩

/-- Settles O59: a backup power-on reset empties the journal, a start pushes one entry, any other command amends it. -/
theorem stepsKeepTheJournal : Obligations.StepsKeepTheJournal := by
  intro c s t sound h
  by_cases powered : c = .backupPowerOnReset
  · subst powered
    exact ⟨execBackupPowerOnReset_journalSound h, fun _ _ _ => .inr (.inl rfl)⟩
  · cases starts : s.startsJob c with
    | true =>
      obtain ⟨new, serial, journal, counter⟩ := (exec_press_starts starts h).pushed
      refine ⟨sound.pushed serial journal counter, fun e held _ => ?_⟩
      rw [show t.journal = journalPush s.journal new from journal]
      exact (mem_journalPush sound.1 held).imp_right fun fallen => .inr ⟨rfl, fallen⟩
    | false =>
      obtain ⟨counter, journal⟩ := (exec_press starts powered h).amended
      exact ⟨sound.amended counter journal, fun e held final => .inl (journal.final e held final)⟩

end Sys2Proof.Machine
end

section
/-! PROOFS. The job starts that the grand totals and the open serials account for (08 R154 to R156). -/

namespace Sys2Proof.Machine

/-! ### Open serials (08 R152) -/

/-- The ports whose open-serial field holds a serial. -/
def openCount (serials : Four (Option Nat)) : Nat :=
  [serials.get 0, serials.get 1, serials.get 2, serials.get 3].countP Option.isSome

/-- 08 R152: a serial opened at a port that had none. -/
theorem openCount_set_some {serials : Four (Option Nat)} {p : Port} {n : Nat} (closed : serials.get p = none) :
    openCount (serials.set p (some n)) = openCount serials + 1 := by
  fin_cases p <;> simp_all [openCount, Four.get, Four.set, List.countP_cons] <;> omega

/-- 08 R152: the serial of a port closed. -/
theorem openCount_set_none {serials : Four (Option Nat)} {p : Port} {n : Nat} (opened : serials.get p = some n) :
    openCount (serials.set p none) + 1 = openCount serials := by
  have reopened : (serials.set p none).set p (some n) = serials := by rw [Four.set_set, ← opened, Four.set_get]
  rw [← openCount_set_some (n := n) (Four.get_set_self serials p none), reopened]

/-! ### The sum of 08 R156 -/

/-- The grand totals and the open serials added, `State.startsAccounted` of the print works. -/
def Press.accounted (r : Press) : Nat := r.completed + r.interrupted + r.abandoned + openCount r.openSerials

theorem State.startsAccounted_eq (s : State) : s.startsAccounted = s.press.accounted := rfl

/-- No grand counter of ended receipts stands at its end. -/
structure Press.Unsaturated (r : Press) : Prop where
  completed : r.completed < 999999999999
  interrupted : r.interrupted < 999999999999
  abandoned : r.abandoned < 999999999999

/-- 08 R155: the counter of one outcome, short of its end after a receipt ended with `o`, has taken that receipt alone. -/
theorem advanced_of_lt {o counted : JournalOutcome} {a : Nat}
    (short : (if o = counted then satAdd a 1 else a) < 999999999999) :
    a < 999999999999 ∧ (if o = counted then satAdd a 1 else a) = a + if o = counted then 1 else 0 := by
  by_cases ends : o = counted
  · rw [if_pos ends, satAdd, Config.counterMax] at short
    rw [if_pos ends, if_pos ends, satAdd, Config.counterMax]
    omega
  · rw [if_neg ends] at short ⊢
    rw [if_neg ends]
    exact ⟨short, rfl⟩

/-- 08 R153: a receipt ends with exactly one of the three counted outcomes. -/
theorem counted_once {o : JournalOutcome} (ends : o ≠ .printing) :
    (if o = .complete then 1 else 0) + (if o = .interrupted then 1 else 0) + (if o = .abandoned then 1 else 0) = 1 := by
  cases o with
  | printing => exact absurd rfl ends
  | complete => rfl
  | interrupted => rfl
  | abandoned => rfl

/-- 08 R153, R155: a receipt ended moves from the open serials to one of the three counters. -/
theorem Press.endReceipt_accounted {r : Press} {p : Port} {n m : Nat} {o : JournalOutcome} (ends : o ≠ .printing)
    (opened : r.openSerials.get p = some m) (after : (r.endReceipt p n o).Unsaturated) :
    r.Unsaturated ∧ (r.endReceipt p n o).accounted = r.accounted := by
  obtain ⟨completed, completions⟩ := advanced_of_lt after.completed
  obtain ⟨interrupted, interruptions⟩ := advanced_of_lt after.interrupted
  obtain ⟨abandoned, abandonments⟩ := advanced_of_lt after.abandoned
  refine ⟨⟨completed, interrupted, abandoned⟩, ?_⟩
  have once := counted_once ends
  have closed := openCount_set_none opened
  simp only [Press.accounted, Press.endReceipt, completions, interruptions, abandonments]
  omega

theorem Press.interrupt_accounted {r : Press} {p : Port} (after : (r.interrupt p).Unsaturated) :
    r.Unsaturated ∧ (r.interrupt p).accounted = r.accounted := by
  unfold Press.interrupt at after ⊢
  split at after
  · exact ⟨after, rfl⟩
  · exact Press.endReceipt_accounted (by decide) ‹_› after

/-- 08 R154: a release counts each open serial as INTERRUPTED, one port after the other. -/
theorem Press.release_accounted {r : Press} {pins : ReleasePins} (after : (r.release pins).Unsaturated) :
    (r.release pins).accounted = r.accounted := by
  have after₃ : ((((r.interrupt 0).interrupt 1).interrupt 2).interrupt 3).Unsaturated :=
    ⟨after.completed, after.interrupted, after.abandoned⟩
  obtain ⟨after₂, same₃⟩ := Press.interrupt_accounted after₃
  obtain ⟨after₁, same₂⟩ := Press.interrupt_accounted after₂
  obtain ⟨after₀, same₁⟩ := Press.interrupt_accounted after₁
  obtain ⟨-, same₀⟩ := Press.interrupt_accounted after₀
  exact same₃.trans (same₂.trans (same₁.trans same₀))

/-! ### Every command -/

/-- A command that starts no job leaves the sum as it was. -/
theorem Press.Change.accounted {r q : Press} (change : r.Change q) (sound : r.Sound) (after : q.Unsaturated) :
    q.accounted = r.accounted := by
  cases change with
  | kept => rfl
  | moved => rfl
  | restarted => rfl
  | @ended p y n o awake final head becomes =>
    have opened : (r.setPrinter p y).openSerials.get p = some n := (sound.awake awake p).2.trans head
    have ends : o ≠ .printing := by
      rcases final with rfl | rfl <;> decide
    exact (Press.endReceipt_accounted ends opened after).2
  | lost => rfl
  | released pins => exact Press.release_accounted after

/-- 08 R152: a job starts at a port without an open serial, and opens one. -/
theorem Press.Starts.accounted {r q : Press} (starts : r.Starts q) (sound : r.Sound) : q.accounted = r.accounted + 1 := by
  cases starts with
  | @start p y job rest e awake queue queued becomes serial =>
    obtain ⟨running, field⟩ := sound.awake awake p
    have closed : r.openSerials.get p = none := field.trans (headSerial_of_queued running.lawful queue queued)
    show r.completed + r.interrupted + r.abandoned + openCount (r.openSerials.set p (some r.serialCounter)) = _
    rw [openCount_set_some closed]
    rfl

theorem execBackupPowerOnReset_accounted {s t : State} (h : execBackupPowerOnReset s = .next t) : t.startsAccounted = 0 := by
  obtain rfl := Host.Outcome.next.inj h
  rfl

/-- Settles O60: on sound printers a start opens one serial, and any other command ends a receipt only where one is open. -/
theorem everyStartIsAccountedFor : Obligations.EveryStartIsAccountedFor := by
  intro c s t printers h completed interrupted abandoned
  have sound := s.printersSound_iff.mp printers
  refine ⟨fun powered => ?reset, fun powered => ?other⟩
  case reset =>
    subst powered
    exact execBackupPowerOnReset_accounted h
  case other =>
    rw [State.startsAccounted_eq, State.startsAccounted_eq]
    cases starts : s.startsJob c with
    | true => exact (exec_press_starts starts h).accounted sound
    | false => exact (exec_press starts powered h).accounted sound ⟨completed, interrupted, abandoned⟩

end Sys2Proof.Machine
end

section
/-! PROOFS. The calendar against a count of days (09 R169, R172, R173): where the years and the months start, the order of
dates, and the addition of days. -/

namespace Sys2Proof.Machine

/-! ### Where the years and the months start -/

/-- Days from 2000-01-01 to the first of January of a year. -/
def yearStart (year : Nat) : Nat := 365 * (year - 2000) + (year - 2000 + 3) / 4

/-- Days from the first of January to the first of a month of the same year. -/
def monthStart (year month : Nat) : Nat := daysBeforeMonth month + (if 2 < month ∧ year % 4 = 0 then 1 else 0)

theorem dayNumber_eq (d : Date) : dayNumber d = yearStart d.year + monthStart d.year d.month + (d.day - 1) := by
  simp only [dayNumber, yearStart, monthStart, Nat.add_assoc]

theorem yearStart_mono {x y : Nat} (le : x ≤ y) : yearStart x ≤ yearStart y := by
  unfold yearStart
  omega

theorem monthStart_january (year : Nat) : monthStart year 1 = 0 := by
  simp [monthStart, daysBeforeMonth]

/-- 09 R169: a month is as long as the next one starts later. -/
theorem monthStart_succ (year : Nat) {month : Nat} (first : 1 ≤ month) (last : month < 12) :
    monthStart year (month + 1) = monthStart year month + monthLength year month := by
  by_cases leap : year % 4 = 0 <;> interval_cases month <;> simp [monthStart, monthLength, daysBeforeMonth, leapYear, leap]

theorem monthStart_mono (year : Nat) {m n : Nat} (first : 1 ≤ m) (le : m ≤ n) (last : n ≤ 12) :
    monthStart year m ≤ monthStart year n := by
  induction n, le using Nat.le_induction with
  | base => exact le_refl _
  | succ n le ih =>
    have next := monthStart_succ year (first.trans le) last
    have before := ih (by omega)
    omega

/-- 09 R169: a year is as long as its December ends after its start. -/
theorem yearStart_succ {year : Nat} (low : 2000 ≤ year) :
    yearStart (year + 1) = yearStart year + (monthStart year 12 + monthLength year 12) := by
  by_cases leap : year % 4 = 0 <;> simp [yearStart, monthStart, monthLength, daysBeforeMonth, leap] <;> omega

/-! ### The order of dates -/

section Order

variable {d a b : Date}

theorem dateValid_iff : dateValid d = true ↔ 2000 ≤ d.year ∧ d.year ≤ 2099 ∧ 1 ≤ d.month ∧ d.month ≤ 12 ∧ 1 ≤ d.day
    ∧ d.day ≤ monthLength d.year d.month := by
  simp only [dateValid, decide_eq_true_eq]

theorem dateBefore_iff : dateBefore a b = true ↔
    a.year < b.year ∨ a.year = b.year ∧ (a.month < b.month ∨ a.month = b.month ∧ a.day < b.day) := by
  simp only [dateBefore, decide_eq_true_eq]

/-- A real date lies in its month. -/
theorem dayNumber_lt_monthEnd (valid : dateValid d = true) :
    dayNumber d < yearStart d.year + (monthStart d.year d.month + monthLength d.year d.month) := by
  obtain ⟨-, -, -, -, first, last⟩ := dateValid_iff.mp valid
  rw [dayNumber_eq]
  omega

/-- A real date lies in its year. -/
theorem dayNumber_lt_yearEnd (valid : dateValid d = true) : dayNumber d < yearStart (d.year + 1) := by
  have inMonth := dayNumber_lt_monthEnd valid
  obtain ⟨low, -, january, december, -, -⟩ := dateValid_iff.mp valid
  rw [yearStart_succ low]
  rcases december.lt_or_eq with earlier | same
  · have next := monthStart_succ d.year january earlier
    have before := monthStart_mono d.year (Nat.le_add_left 1 d.month) earlier le_rfl
    omega
  · rwa [same] at inMonth

theorem dayNumber_lt_calendarDays (valid : dateValid d = true) : dayNumber d < calendarDays := by
  obtain ⟨-, high, -⟩ := dateValid_iff.mp valid
  exact (dayNumber_lt_yearEnd valid).trans_le (yearStart_mono (Nat.succ_le_succ high))

/-- 09 R172: the earlier of two dates counts fewer days. -/
theorem dayNumber_lt_of_dateBefore (ha : dateValid a = true) (hb : dateValid b = true) (before : dateBefore a b = true) :
    dayNumber a < dayNumber b := by
  have countB := dayNumber_eq b
  obtain ⟨-, -, aJanuary, -, aFirst, -⟩ := dateValid_iff.mp ha
  obtain ⟨-, -, -, bDecember, -, -⟩ := dateValid_iff.mp hb
  rcases dateBefore_iff.mp before with year | ⟨year, month | ⟨month, day⟩⟩
  · have inYear := dayNumber_lt_yearEnd ha
    have later := yearStart_mono (show a.year + 1 ≤ b.year from year)
    omega
  · have inMonth := dayNumber_lt_monthEnd ha
    have next := monthStart_succ a.year aJanuary (by omega)
    have later := monthStart_mono a.year (Nat.le_add_left 1 a.month) month bDecember
    rw [← year] at countB
    omega
  · rw [countB, dayNumber_eq a, year, month]
    omega

theorem date_trichotomy (a b : Date) : dateBefore a b = true ∨ a = b ∨ dateBefore b a = true := by
  obtain ⟨y, m, d⟩ := a
  obtain ⟨y', m', d'⟩ := b
  simp only [dateBefore_iff, Date.mk.injEq]
  omega

theorem dayNumber_injective (ha : dateValid a = true) (hb : dateValid b = true) (same : dayNumber a = dayNumber b) : a = b := by
  rcases date_trichotomy a b with before | equal | after
  · exact absurd same (dayNumber_lt_of_dateBefore ha hb before).ne
  · exact equal
  · exact absurd same (dayNumber_lt_of_dateBefore hb ha after).ne'

theorem dateBefore_iff_dayNumber (ha : dateValid a = true) (hb : dateValid b = true) :
    dateBefore a b = true ↔ dayNumber a < dayNumber b := by
  refine ⟨dayNumber_lt_of_dateBefore ha hb, fun fewer => ?_⟩
  rcases date_trichotomy a b with before | rfl | after
  · exact before
  · exact absurd fewer (lt_irrefl _)
  · exact absurd fewer (dayNumber_lt_of_dateBefore hb ha after).not_gt

end Order

/-! ### The days after a date -/

theorem lastDay_valid : dateValid lastDay = true := by decide

theorem dayNumber_lastDay : dayNumber lastDay + 1 = calendarDays := by decide

/-- 09 R169: the day after counts one day more, and the day after the last day counts none. -/
theorem dayNumber_nextDay {d : Date} (valid : dateValid d = true) : dayNumber (nextDay d) = (dayNumber d + 1) % calendarDays := by
  have inCalendar := dayNumber_lt_calendarDays (nextDay_valid valid)
  obtain ⟨year, month, day⟩ := d
  obtain ⟨low, high, january, december, first, last⟩ := dateValid_iff.mp valid
  dsimp only at low high january december first last
  rcases last.lt_or_eq with withinMonth | rfl
  · simp only [nextDay, withinMonth, if_true, dayNumber_eq] at inCalendar ⊢
    rw [Nat.mod_eq_of_lt] <;> omega
  · rcases december.lt_or_eq with withinYear | rfl
    · have next := monthStart_succ year january withinYear
      simp only [nextDay, lt_irrefl, withinYear, if_true, if_false, dayNumber_eq] at inCalendar ⊢
      rw [Nat.mod_eq_of_lt] <;> omega
    · rcases high.lt_or_eq with withinCycle | rfl
      · have next := yearStart_succ low
        simp only [nextDay, lt_irrefl, withinCycle, if_true, if_false, dayNumber_eq, monthStart_january] at inCalendar ⊢
        rw [Nat.mod_eq_of_lt] <;> omega
      · rfl

theorem dayNumber_nextDay_of_ne_lastDay {d : Date} (valid : dateValid d = true) (ne : d ≠ lastDay) :
    dayNumber (nextDay d) = dayNumber d + 1 := by
  have inCalendar := dayNumber_lt_calendarDays valid
  have notLast : dayNumber d ≠ dayNumber lastDay := mt (dayNumber_injective valid lastDay_valid) ne
  have last := dayNumber_lastDay
  rw [dayNumber_nextDay valid, Nat.mod_eq_of_lt (by omega)]

/-- 09 R173: `n` days after a real date is a real date, `n` days on or the last day. -/
theorem addDays_counts (n : Nat) {d : Date} (valid : dateValid d = true) :
    dateValid (addDays d n) = true ∧ dayNumber (addDays d n) = min (dayNumber d + n) (dayNumber lastDay) := by
  have last := dayNumber_lastDay
  induction n generalizing d with
  | zero =>
    have inCalendar := dayNumber_lt_calendarDays valid
    rw [addDays, Nat.add_zero, min_eq_left (by omega)]
    exact ⟨valid, rfl⟩
  | succ n ih =>
    by_cases stops : d = lastDay
    · subst stops
      rw [addDays, if_pos rfl, min_eq_right (Nat.le_add_right _ _)]
      exact ⟨valid, rfl⟩
    · rw [addDays, if_neg stops]
      obtain ⟨real, count⟩ := ih (nextDay_valid valid)
      refine ⟨real, count.trans ?_⟩
      rw [dayNumber_nextDay_of_ne_lastDay valid stops, Nat.add_assoc, Nat.add_comm 1 n]

/-- Settles O47: the day count is monotone in the order of dates, and each day added counts one day until the last. -/
theorem daysAreAddedAndCompared : Obligations.DaysAreAddedAndCompared :=
  fun _ _ ha hb => ⟨dateBefore_iff_dayNumber ha hb, dayNumber_injective ha hb, fun n => addDays_counts n ha⟩

end Sys2Proof.Machine
end

section
/-! PROOFS. The clock against a count of seconds (09 R169, R176): the carries of an hour, a minute and a second, and the nearest
whole minute; and SET-CLOCK (09 R174, 04 R77). -/

namespace Sys2Proof.Machine

/-! ### The carries -/

section Carries

variable {s : Stamp}

theorem stampValid_mk {date : Date} {hour minute second : Nat} : stampValid ⟨date, hour, minute, second⟩ = true ↔
    dateValid date = true ∧ hour ≤ 23 ∧ minute ≤ 59 ∧ second ≤ 59 := stampValid_iff _

theorem secondNumber_lt (valid : stampValid s = true) : secondNumber s < 86400 * calendarDays := by
  obtain ⟨date, hour, minute, second⟩ := (stampValid_iff s).mp valid
  have day := dayNumber_lt_calendarDays date
  unfold secondNumber
  omega

theorem secondNumber_nextHour (valid : stampValid s = true) :
    secondNumber (nextHour s) = (secondNumber s + 3600) % (86400 * calendarDays) := by
  have inCycle := secondNumber_lt (nextHour_valid valid)
  obtain ⟨date, hour, minute, second⟩ := s
  obtain ⟨dateOk, hourOk, minuteOk, secondOk⟩ := stampValid_mk.mp valid
  rcases hourOk.lt_or_eq with within | rfl
  · simp only [nextHour, within, if_true, secondNumber] at inCycle ⊢
    rw [Nat.mod_eq_of_lt] <;> omega
  · have day := dayNumber_nextDay dateOk
    simp only [nextHour, lt_irrefl, if_false, secondNumber, calendarDays] at day ⊢
    omega

theorem secondNumber_nextMinute (valid : stampValid s = true) :
    secondNumber (nextMinute s) = (secondNumber s + 60) % (86400 * calendarDays) := by
  have inCycle := secondNumber_lt (nextMinute_valid valid)
  obtain ⟨date, hour, minute, second⟩ := s
  obtain ⟨dateOk, hourOk, minuteOk, secondOk⟩ := stampValid_mk.mp valid
  rcases minuteOk.lt_or_eq with within | rfl
  · simp only [nextMinute, within, if_true, secondNumber] at inCycle ⊢
    rw [Nat.mod_eq_of_lt] <;> omega
  · have carried := secondNumber_nextHour (stampValid_mk.mpr ⟨dateOk, hourOk, Nat.zero_le _, secondOk⟩)
    simp only [nextMinute, lt_irrefl, if_false, carried]
    simp only [secondNumber, calendarDays]
    omega

/-- 09 R169: a second boundary counts one second on through the cycle of the calendar. -/
theorem secondNumber_nextSecond (valid : stampValid s = true) :
    secondNumber (nextSecond s) = (secondNumber s + 1) % (86400 * calendarDays) := by
  have inCycle := secondNumber_lt (nextSecond_valid valid)
  obtain ⟨date, hour, minute, second⟩ := s
  obtain ⟨dateOk, hourOk, minuteOk, secondOk⟩ := stampValid_mk.mp valid
  rcases secondOk.lt_or_eq with within | rfl
  · simp only [nextSecond, within, if_true, secondNumber] at inCycle ⊢
    rw [Nat.mod_eq_of_lt] <;> omega
  · have carried := secondNumber_nextMinute (stampValid_mk.mpr ⟨dateOk, hourOk, minuteOk, Nat.zero_le _⟩)
    simp only [nextSecond, lt_irrefl, if_false, carried]
    simp only [secondNumber, Nat.add_assoc, Nat.zero_add]

/-! ### The nearest whole minute -/

theorem nextMinute_second (s : Stamp) : (nextMinute s).time.second = s.time.second := by
  unfold nextMinute nextHour
  split
  · rfl
  · split <;> rfl

theorem alignedMinute_second (s : Stamp) : (alignedMinute s).time.second = 0 := by
  unfold alignedMinute
  dsimp only
  split
  · rfl
  · exact nextMinute_second _

/-- 09 R176: the aligned reading is the old one and its correction, through the cycle of the calendar. -/
theorem secondNumber_alignedMinute (valid : stampValid s = true) :
    (secondNumber (alignedMinute s) : Int) = (secondNumber s + alignCorrection s) % (86400 * calendarDays) := by
  have inCycle := secondNumber_lt valid
  obtain ⟨date, hour, minute, second⟩ := s
  obtain ⟨dateOk, hourOk, minuteOk, -⟩ := stampValid_mk.mp valid
  by_cases early : second < 30
  · simp only [alignedMinute, alignCorrection, early, if_true, secondNumber] at inCycle ⊢
    rw [Int.emod_eq_of_lt] <;> omega
  · have carried := secondNumber_nextMinute (stampValid_mk.mpr ⟨dateOk, hourOk, minuteOk, Nat.zero_le _⟩)
    simp only [alignedMinute, alignCorrection, early, if_false, carried]
    push_cast [secondNumber]
    congr 1
    omega

theorem alignCorrection_eq (s : Stamp) :
    alignCorrection s = if s.time.second ≤ 29 then -(s.time.second : Int) else 60 - s.time.second := by
  simp only [alignCorrection, ← Nat.lt_succ_iff]

end Carries

/-! ### The events and requests of the clock -/

section Requests

variable {s : State} {p : Port} {u : Unit}

theorem alignMinuteReply_invalid (invalid : s.clock.valid = false) : alignMinuteReply p u s = .refuse .clockInvalid := by
  simp only [alignMinuteReply, invalid, Bool.not_false, if_true]

theorem alignMinuteReply_done (valid : s.clock.valid = true) : alignMinuteReply p u s =
    .done (Wire.stamp (alignedMinute s.clock.now) ++ Wire.signed (alignCorrection s.clock.now))
      { s with clock := { s.clock with now := alignedMinute s.clock.now, phase := 0 } } := by
  simp only [alignMinuteReply, valid, Bool.not_true, Bool.false_eq_true, if_false]

end Requests

/-- Settles O45: the carries counted in seconds, the day after counted in days. -/
theorem secondBoundaryAndAlignment : Obligations.SecondBoundaryAndAlignment := by
  intro s sound
  have real := s.clockSound_iff.mp sound
  refine ⟨⟨{ s with clock := { s.clock with now := nextSecond s.clock.now, phase := 0 } },
      (State.clockSound_iff _).mpr (nextSecond_valid real), secondNumber_nextSecond real, rfl, rfl, rfl, rfl⟩,
    fun p ready => ⟨fun invalid => ?refused, fun valid => ?aligned⟩⟩
  case refused =>
    exact takeRequest_refused ready rfl noFields_nil (alignMinuteReply_invalid (s := s.idleReceiver p) invalid)
  case aligned =>
    refine ⟨{ s with clock := { s.clock with now := alignedMinute s.clock.now, phase := 0 } }, ?_⟩
    rw [← alignCorrection_eq]
    exact ⟨(State.clockSound_iff _).mpr (alignedMinute_valid real), alignedMinute_second _, secondNumber_alignedMinute real, rfl,
      valid, rfl, takeRequest_done ready rfl noFields_nil (alignMinuteReply_done (s := s.idleReceiver p) valid)⟩

/-- Settles O46: the reply sets the clock and dates each ticket, which the console's receiver is no part of. -/
theorem setClockDatesTheTickets : Obligations.SetClockDatesTheTickets := by
  intro p fields now s decoded ready undated date
  have counted : (entries s.tickets).countP Ticket.undated = ((entries s.tickets).filter undated).length :=
    List.countP_eq_length_filter
  rw [← counted]
  exact takeRequest_done (u := { s with
    clock := ⟨now, 0, true⟩, tickets := s.tickets.map (Option.map fun t => t.dated now.date) }) ready rfl decoded rfl

end Sys2Proof.Machine
end

section
/-! PROOFS. The desk: the console ports and the queue of waiting commands. What leaves both alone, and what a frame, the end of a
weighing and a reset make of them (10 R180 to R194). -/

namespace Sys2Proof.Machine

/-- 10 R180: the console ports, and the commands that wait to be taken. -/
structure Desk where
  consoles : Four Console
  pending : List Instr

/-- The console ports and the queue of the part. -/
def State.desk (s : State) : Desk := ⟨s.consoles, s.pending⟩

theorem State.console_of_desk {s t : State} (h : t.desk = s.desk) (p : Port) : t.console p = s.console p :=
  congrArg (fun d => d.consoles.get p) h

/-! ### What leaves the desk alone -/

theorem State.clearTaskMark_desk (s : State) (task : WeighTask) : (s.clearTaskMark task).desk = s.desk := by
  obtain ⟨tickets, h⟩ := s.clearTaskMark_frame task
  rw [h]
  rfl

theorem State.dropWeighing_desk (s : State) (b : BridgeId) : (s.dropWeighing b).desk = s.desk := by
  unfold State.dropWeighing
  split
  · rfl
  · exact s.clearTaskMark_desk _

theorem State.offer_desk (s : State) (p : Port) (job : Job) : (s.offer p job).1.desk = s.desk := by
  rw [State.offer_eq]
  split <;> rfl

theorem State.closeTicket_desk (s : State) (i : Nat) (t : Ticket) (p : Port) : (s.closeTicket i t p).1.desk = s.desk :=
  State.offer_desk _ p _

theorem State.deliverStoreTare_desk (s : State) (b : BridgeId) (w : Nat) (vehicle : Text) :
    (s.deliverStoreTare b w vehicle).state.desk = s.desk := by
  unfold State.deliverStoreTare
  split
  · rfl
  · split
    · rfl
    · split <;> rfl

/-- 01 R16: no captured weight is handed to a console port. -/
theorem State.deliver_desk (s : State) (b : BridgeId) (w : Int) (x : Weighing) : (s.deliver b w x).state.desk = s.desk := by
  unfold State.deliver
  cases x.task with
  | gross vehicle seller =>
    dsimp only
    split
    · rfl
    · unfold State.deliverGross
      split <;> rfl
  | drop n grade manual =>
    dsimp only
    split
    · rfl
    · split <;> rfl
  | tare n grade manual =>
    dsimp only
    split
    · rfl
    · split
      · rfl
      · exact s.closeTicket_desk _ _ x.console
  | storeTare vehicle =>
    dsimp only
    split
    · rfl
    · exact s.deliverStoreTare_desk b w.toNat vehicle

theorem State.endReceipt_desk (s : State) (p : Port) (n : Nat) (o : JournalOutcome) :
    (s.endReceipt p n o).desk = s.desk := by
  obtain ⟨day, grand, h⟩ := s.endReceipt_frame p n o
  rw [h]
  rfl

theorem State.recordCompletion_desk (s : State) (job : Job) (serial : Nat) :
    (s.recordCompletion job serial).desk = s.desk := by
  unfold State.recordCompletion
  split
  · rfl
  · split <;> rfl

theorem State.completeJob_desk (s : State) (p : Port) (job : Job) : (s.completeJob p job).desk = s.desk := by
  unfold State.completeJob
  dsimp only
  split
  · rfl
  · rw [State.recordCompletion_desk, State.endReceipt_desk]
    rfl

theorem State.acknowledge_desk (s : State) (p : Port) (job : Job) (lines : List Text) :
    (s.acknowledge p job lines).desk = s.desk := by
  unfold State.acknowledge
  dsimp only
  split
  · split <;> rfl
  · exact s.completeJob_desk p job

theorem State.restartJob_desk (s : State) (p : Port) (job : Job) : (s.restartJob p job).desk = s.desk := by
  unfold State.restartJob
  split <;> rfl

theorem State.readyOrRestart_desk (s : State) (p : Port) : (s.readyOrRestart p).desk = s.desk := by
  unfold State.readyOrRestart
  split
  · split
    · exact s.restartJob_desk p _
    · rfl
  · rfl

theorem State.restartLate_desk (s : State) (p : Port) : (s.restartLate p).desk = s.desk := by
  unfold State.restartLate
  split
  · exact s.restartJob_desk p _
  · rfl

theorem State.interrupt_pending (s : State) (p : Port) : (s.interrupt p).pending = s.pending := by
  unfold State.interrupt
  split
  · rfl
  · rename_i serial _
    have ended := congrArg Desk.pending (s.endReceipt_desk p serial .interrupted)
    exact ended

/-! ### Sound console ports -/

theorem Console.push_spoken (c : Console) (a : Answer) : (c.push a).spoken = c.spoken + 1 := by
  unfold Console.spoken
  rw [Console.push_answers, List.length_append]
  exact Nat.add_right_comm _ _ _

section Port

variable {c : Console} (h : c.Sound)
include h

theorem Console.Sound.heard : c.heard.Sound := by
  obtain ⟨spoken, busy, tx, -, off, -⟩ := h
  exact ⟨spoken, busy, tx, iff_of_true rfl rfl, fun o => ⟨rfl, (off o).2⟩, rfl⟩

/-- 10 R182: a port in a frame runs its timer. -/
theorem Console.Sound.receiving {rx : Receiver} (on : c.role ≠ .off) (inFrame : rx ≠ .idle) (sound : rx.Sound = true) :
    ({ c with rx, interByteTimer := true } : Console).Sound := by
  obtain ⟨spoken, busy, tx, -, -, -⟩ := h
  exact ⟨spoken, busy, tx, iff_of_false (by simp) inFrame, fun o => absurd o on, sound⟩

theorem Console.Sound.push (on : c.role ≠ .off) (room : c.spoken < 4) (a : Answer) : (c.push a).Sound := by
  obtain ⟨-, busy, -, timer, -, rx⟩ := h
  refine ⟨by rw [Console.push_spoken]; omega, busy, ?_, timer, fun o => absurd o on, rx⟩
  rw [Console.push_tx, Console.push_answers]
  refine iff_of_false ?_ (by simp)
  split
  · simp
  · assumption

/-- 10 R190: the place that a request in flight speaks for is one of the four. -/
theorem Console.Sound.fly (on : c.role ≠ .off) (room : c.spoken < 4) (grounded : c.inFlight = none) (f : InFlight) :
    ({ c with inFlight := some f, busy := true } : Console).Sound := by
  obtain ⟨-, -, tx, timer, -, rx⟩ := h
  refine ⟨?_, rfl, tx, timer, fun o => absurd o on, rx⟩
  simp only [Console.spoken, grounded, Option.isSome_none, Option.isSome_some] at room ⊢
  simpa using room

/-- 10 R190: the answer takes the place that its request spoke for. -/
theorem Console.Sound.land {f : InFlight} (flight : c.inFlight = some f) (a : Answer) :
    ({ c with inFlight := none, busy := false }.push a).Sound := by
  obtain ⟨spoken, -, tx, timer, off, rx⟩ := h
  have on : c.role ≠ .off := fun o => by rw [(off o).2.2] at flight; contradiction
  have landed : ({ c with inFlight := none, busy := false } : Console).spoken < 4 := by
    simp only [Console.spoken, flight, Option.isSome_some, Option.isSome_none] at spoken ⊢
    simpa using spoken
  exact Console.Sound.push (c := { c with inFlight := none, busy := false })
    ⟨landed.le, rfl, tx, timer, fun o => absurd o on, rx⟩ on landed a

theorem Console.Sound.transmitted : c.transmitted.Sound := by
  unfold Console.transmitted
  split
  · exact h
  · rename_i a rest answers
    obtain ⟨spoken, busy, -, timer, off, rx⟩ := h
    have on : c.role ≠ .off := fun o => by rw [(off o).2.1] at answers; contradiction
    refine ⟨?_, busy, ?_, timer, fun o => absurd o on, rx⟩
    · simp only [Console.spoken, answers, List.length_cons] at spoken ⊢
      omega
    · cases rest <;> simp

end Port

/-- 10 R195: a port after main reset is sound in every role. -/
theorem resetConsole_sound (role : Role) : (resetConsole role).Sound :=
  ⟨by simp [Console.spoken, resetConsole], rfl, iff_of_true rfl rfl, iff_of_true rfl rfl, fun _ => ⟨rfl, rfl, rfl⟩, rfl⟩

/-! ### What a command keeps of the desk -/

/-- The queue is as it was, and sound console ports are sound again. -/
structure Tended (s t : State) : Prop where
  queue : t.pending = s.pending
  sound : s.ConsolesSound → t.ConsolesSound

theorem Tended.of_desk {s t : State} (h : t.desk = s.desk) : Tended s t where
  queue := congrArg Desk.pending h
  sound sound p := by rw [State.console_of_desk h]; exact sound p

theorem Tended.refl (s : State) : Tended s s := .of_desk rfl

theorem Tended.trans {s t u : State} (h : Tended s t) (k : Tended t u) : Tended s u :=
  ⟨k.queue.trans h.queue, fun sound => k.sound (h.sound sound)⟩

/-- What leaves the desk alone may come before. -/
theorem Tended.after {s t u : State} (k : Tended t u) (h : t.desk = s.desk) : Tended s u := (Tended.of_desk h).trans k

theorem Tended.setConsole {s : State} {p : Port} {c : Console} (sound : (s.console p).Sound → c.Sound) :
    Tended s (s.setConsole p c) where
  queue := rfl
  sound all q := by
    rw [State.console_setConsole]
    split
    · exact sound (all p)
    · exact all q

theorem Tended.idleReceiver (s : State) (p : Port) : Tended s (s.idleReceiver p) := .setConsole Console.Sound.heard

section Frame

variable {s : State} {p : Port} (on : (s.console p).role ≠ .off) (room : (s.console p).spoken < 4)
include on room

theorem Tended.answer (a : Answer) : Tended s (s.answer p a) := .setConsole fun h => h.push on room a

theorem Tended.beginFlight (grounded : (s.console p).inFlight = none) (cls : Byte) (b : BridgeId) :
    Tended s (s.beginFlight p cls b) := .setConsole fun h => h.fly on room grounded _

end Frame

theorem Tended.endFlight (s : State) (p : Port) (r : ResultCode) (fields : List Byte) :
    Tended s (s.endFlight p r fields) := by
  unfold State.endFlight
  split
  · exact .refl s
  · rename_i f flight
    exact .setConsole fun h => h.land flight _

/-- 10 R190: the end of a flight leaves the port its role, and as many places spoken for. -/
theorem State.endFlight_console (s : State) (p : Port) (r : ResultCode) (fields : List Byte) :
    ((s.endFlight p r fields).console p).role = (s.console p).role
      ∧ ((s.endFlight p r fields).console p).spoken = (s.console p).spoken := by
  unfold State.endFlight
  cases flight : (s.console p).inFlight with
  | none => exact ⟨rfl, rfl⟩
  | some f => simp [Console.spoken, flight]

/-! ### Weighings that end (01 R14 to R18) -/

theorem Tended.failWeighing (s : State) (b : BridgeId) (r : ResultCode) : Tended s (s.failWeighing b r) := by
  unfold State.failWeighing
  split
  · exact .refl s
  · exact (Tended.endFlight _ _ r _).after (s.dropWeighing_desk b)

theorem Tended.capture (s : State) (b : BridgeId) (x : Weighing) (raw : Int) : Tended s (s.capture b x raw) :=
  (Tended.endFlight _ _ _ _).after (s.deliver_desk b _ x)

theorem Tended.setLink (s : State) (b : BridgeId) (l : LinkState) : Tended s (s.setLink b l) := by
  unfold State.setLink
  dsimp only
  split
  · exact (Tended.failWeighing _ b .stale).after rfl
  · exact (Tended.failWeighing _ b .scaleFault).after rfl
  · exact .of_desk rfl
  · exact .of_desk rfl
  · exact .of_desk rfl

theorem Tended.countedSample (s : State) (b : BridgeId) (raw : Int) : Tended s (s.countedSample b raw) := by
  unfold State.countedSample
  dsimp only
  split
  · split
    · exact (Tended.capture _ b _ raw).after rfl
    · exact .of_desk rfl
  · exact .of_desk rfl

theorem Tended.divide (s : State) (b : BridgeId) (raw : Int) : Tended s (s.divide b raw) := by
  unfold State.divide
  dsimp only
  split
  · exact (Tended.countedSample _ b raw).after rfl
  · exact .of_desk rfl

theorem Tended.sample (s : State) (b : BridgeId) (raw : Int) (fault : Bool) : Tended s (s.sample b raw fault) := by
  unfold State.sample
  dsimp only
  split
  · exact (Tended.setLink _ b .fault).after rfl
  · exact ((Tended.setLink _ b .live).trans (.divide _ b raw)).after rfl

/-! ### Resets (11 R202, R203) -/

theorem State.loseMain_sound (s : State) : s.loseMain.ConsolesSound := fun p => by
  have lost : s.loseMain.console p = resetConsole (s.console p).role := Four.get_ofFn _ p
  rw [lost]
  exact resetConsole_sound _

theorem Tended.loseMain (s : State) : Tended s s.loseMain := ⟨rfl, fun _ => s.loseMain_sound⟩

theorem State.assertBy_desk (s : State) (cause : ResetCause) : (s.assertBy cause).desk = s.desk := by
  cases cause <;> rfl

theorem Tended.release (s : State) (pins : ReleasePins) : Tended s (s.release pins) where
  queue := by
    have interrupted : ((((s.interrupt 0).interrupt 1).interrupt 2).interrupt 3).pending = s.pending := by
      simp only [State.interrupt_pending]
    exact interrupted
  sound _ p := by
    have up : (s.release pins).console p = resetConsole (roleOfStraps (pins.consoleStraps.get p)) := Four.get_ofFn _ p
    rw [up]
    exact resetConsole_sound _

end Sys2Proof.Machine
end

section
/-! PROOFS. Every command answers a next state, leaves the queue of waiting commands alone, and keeps the console ports sound (10
R180 to R194, log 4). -/

namespace Sys2Proof.Machine

/-! ### Replies that leave the desk alone -/

/-- The desk after a block's reply in state `s`, before the console answers. -/
def Reply.desk (s : State) : Reply → Desk
  | .refuse _ => s.desk
  | .done _ t => t.desk
  | .flight _ t => t.desk

section Replies

variable (p : Port) (s : State)

theorem openTicketReply_desk (r : OpenTicketReq) : (openTicketReply p r s).desk s = s.desk := by
  rw [openTicketReply_eq]
  split <;> rfl

theorem weighReply_desk (drop : Bool) (r : WeighReq) : (weighReply drop p r s).desk s = s.desk := by
  rw [weighReply_eq]
  split
  · rfl
  · split <;> rfl

theorem storeTareReply_desk (r : StoreTareReq) : (storeTareReply p r s).desk s = s.desk := by
  rw [storeTareReply_eq]
  split <;> rfl

theorem zeroReply_desk (b : BridgeId) : (zeroReply p b s).desk s = s.desk := by
  rw [zeroReply_eq _ p s b rfl]
  split <;> rfl

theorem setBridgeReply_desk (r : SetBridgeReq) : (setBridgeReply p r s).desk s = s.desk := by
  unfold setBridgeReply
  dsimp only
  split <;> rfl

theorem setPartyReply_desk (r : SetPartyReq) : (setPartyReply p r s).desk s = s.desk := by
  rw [setPartyReply_eq]
  split
  · rfl
  · split <;> rfl

theorem voidTicketReply_desk (n : Nat) : (voidTicketReply p n s).desk s = s.desk := by
  unfold voidTicketReply
  iterate 3 (split; · rfl)
  exact State.offer_desk _ p _

theorem setDeductionReply_desk (r : SetDeductionReq) : (setDeductionReply p r s).desk s = s.desk := by
  unfold setDeductionReply
  iterate 3 (split; · rfl)
  dsimp only
  split
  · rfl
  · exact State.offer_desk _ p _

theorem applyTareReply_desk (r : ApplyTareReq) : (applyTareReply p r s).desk s = s.desk := by
  unfold applyTareReply
  iterate 9 (split; · rfl)
  exact s.closeTicket_desk _ _ p

theorem setGradeReply_desk (r : SetGradeReq) : (setGradeReply p r s).desk s = s.desk := by
  unfold setGradeReply
  split
  · rfl
  · split <;> rfl

theorem removeGradeReply_desk (code : Nat) : (removeGradeReply p code s).desk s = s.desk := by
  unfold removeGradeReply
  split
  · rfl
  · split <;> rfl

theorem deleteTareReply_desk (v : Text) : (deleteTareReply p v s).desk s = s.desk := by
  unfold deleteTareReply
  split <;> rfl

theorem alignMinuteReply_desk (r : Unit) : (alignMinuteReply p r s).desk s = s.desk := by
  unfold alignMinuteReply
  split <;> rfl

theorem copyReply_desk (n : Nat) : (copyReply p n s).desk s = s.desk := by
  unfold copyReply
  split
  · rfl
  · split <;> rfl

theorem discardJobReply_desk (r : Unit) : (discardJobReply p r s).desk s = s.desk := by
  unfold discardJobReply
  split
  · rfl
  · split
    · rfl
    · rfl
    · split
      · rfl
      · exact State.endReceipt_desk _ p _ _

theorem openTillReply_desk (float : Nat) : (openTillReply p float s).desk s = s.desk := by
  unfold openTillReply
  split <;> rfl

theorem loadCashReply_desk (amount : Nat) : (loadCashReply p amount s).desk s = s.desk := by
  unfold loadCashReply
  split <;> rfl

theorem closeTillReply_desk (counted : Nat) : (closeTillReply p counted s).desk s = s.desk := by
  unfold closeTillReply
  split
  · rfl
  · split <;> rfl

theorem forceCloseTillReply_desk (k : Port) : (forceCloseTillReply p k s).desk s = s.desk := by
  unfold forceCloseTillReply
  split
  · rfl
  · exact State.offer_desk _ p _

theorem payReply_desk (r : PayReq) : (payReply p r s).desk s = s.desk := by
  unfold payReply
  iterate 5 (split; · rfl)
  dsimp only
  split <;> rfl

theorem dayCloseReply_desk (r : Unit) : (dayCloseReply p r s).desk s = s.desk := by
  unfold dayCloseReply
  split
  · rfl
  · split <;> rfl

theorem queryTicketReply_desk (r : QueryTicketReq) : (queryTicketReply p r s).desk s = s.desk := by
  unfold queryTicketReply
  split
  · rfl
  · split <;> rfl

theorem queryGradeReply_desk (r : QueryGradeReq) : (queryGradeReply p r s).desk s = s.desk := by
  unfold queryGradeReply
  split
  · split <;> rfl
  · rfl

theorem queryTareReply_desk (r : QueryTareReq) : (queryTareReply p r s).desk s = s.desk := by
  unfold queryTareReply
  split <;> split <;> rfl

theorem queryJournalReply_desk (r : QueryJournalReq) : (queryJournalReply p r s).desk s = s.desk := by
  unfold queryJournalReply
  split <;> split <;> rfl

theorem queryTotalsReply_desk (r : QueryTotalsReq) : (queryTotalsReply p r s).desk s = s.desk := by
  unfold queryTotalsReply
  split <;> rfl

end Replies

/-! ### Requests (10 R186 to R192) -/

section Reply

variable {s : State} {p : Port} (on : (s.console p).role ≠ .off) (room : (s.console p).spoken < 4)
include on room

/-- 10 R187 step 6, R190: a reply is an answer in a free place, or a request in flight in one. -/
theorem Reply.apply_tended {r : Reply} (kept : r.desk s = s.desk) (grounded : (s.console p).inFlight = none) (cls : Byte) :
    Tended s (r.apply cls p s) := by
  cases r with
  | refuse code => exact .answer on room _
  | done out t =>
    have same := State.console_of_desk kept p
    exact (Tended.answer (same.symm ▸ on) (same.symm ▸ room) _).after kept
  | flight b t =>
    have same := State.console_of_desk kept p
    exact (Tended.beginFlight (same.symm ▸ on) (same.symm ▸ room) (same.symm ▸ grounded) cls b).after kept

/-- 10 R192: the weighing's answer takes the place that its request spoke for, and DONE the free one. -/
theorem abortReply_tended (r : Unit) (cls : Byte) : Tended s ((abortReply p r s).apply cls p s) := by
  unfold abortReply
  split
  · exact .answer on room _
  · rename_i f _
    have same := State.console_of_desk (s.dropWeighing_desk f.bridge) p
    obtain ⟨role, spoken⟩ := (s.dropWeighing f.bridge).endFlight_console p .aborted (Wire.bridge f.bridge)
    exact ((Tended.endFlight _ p _ _).after (s.dropWeighing_desk f.bridge)).trans
      (.answer (by rw [role, same]; exact on) (by rw [spoken, same]; exact room) _)

end Reply

section Request

variable {α : Type} {cls : Byte} {permitted : Role → Bool} {decode : List Byte → Option α}
  {act : Port → α → State → Reply} {p : Port} {fields : List Byte} {s : State}

/-- 10 R186: a frame is tended where the examination of it is. -/
theorem takeFrame_tended {examined : State → State}
    (acted : ∀ u : State, (u.console p).role ≠ .off → (u.console p).spoken < 4 → Tended u (examined u)) :
    Tended s (takeFrame p s examined) :=
  takeFrame_keeps (P := Tended s) (.refl s) (fun _ => .idleReceiver s p) fun hears room =>
    have ⟨_, on⟩ := (s.hears_iff p).mp hears
    (Tended.idleReceiver s p).trans (acted _ (by rw [State.idleReceiver_console_self]; exact on)
      (by rw [State.idleReceiver_console_self]; exact room))

/-- 10 R187: a request is tended where its block's reply is. -/
theorem takeRequest_tended
    (replied : ∀ r (u : State), (u.console p).role ≠ .off → (u.console p).spoken < 4 →
      ((u.console p).inFlight = none ∨ cls = abortClass) → Tended u ((act p r u).apply cls p u)) :
    ∃ t, takeRequest cls permitted decode act p fields s = .next t ∧ Tended s t := by
  refine ⟨_, rfl, takeFrame_tended fun u on room => ?_⟩
  rcases examine_cases cls permitted decode act p fields u with ⟨code, refused⟩ | ⟨r, -, -, flight, handed⟩
  · rw [refused]
    exact .answer on room _
  · rw [handed]
    exact replied r u on room flight

/-- Every request but ABORT leaves the desk to the console. -/
theorem takeRequest_tended_of_desk (other : cls ≠ abortClass) (kept : ∀ r u, (act p r u).desk u = u.desk) :
    ∃ t, takeRequest cls permitted decode act p fields s = .next t ∧ Tended s t :=
  takeRequest_tended fun r u on room flight => Reply.apply_tended on room (kept r u) (flight.resolve_right other) cls

end Request

/-! ### Events -/

section Events

variable (s : State)

theorem execSampleEvent_tended (b : BridgeId) (raw : BitVec 24) (status : Byte) :
    ∃ t, execSampleEvent b raw status s = .next t ∧ Tended s t := by
  refine ⟨_, rfl, ?_⟩
  split
  · exact .refl s
  · exact .sample s b _ _

theorem execBadSampleFrame_tended (b : BridgeId) : ∃ t, execBadSampleFrame b s = .next t ∧ Tended s t := by
  refine ⟨_, rfl, ?_⟩
  split <;> exact .of_desk rfl

theorem execStaleTimerExpiry_tended (b : BridgeId) : ∃ t, execStaleTimerExpiry b s = .next t ∧ Tended s t := by
  refine ⟨_, rfl, ?_⟩
  split
  · exact (Tended.setLink _ b .down).after rfl
  · exact .refl s

theorem execBeamEvent_tended (b : BridgeId) (e : BeamEnd) (high : Bool) :
    ∃ t, execBeamEvent b e high s = .next t ∧ Tended s t := by
  refine ⟨_, rfl, ?_⟩
  split <;> exact .of_desk rfl

theorem execMotionDeadline_tended (b : BridgeId) : ∃ t, execMotionDeadline b s = .next t ∧ Tended s t := by
  refine ⟨_, rfl, ?_⟩
  split
  · exact .refl s
  · exact .failWeighing s b .unstable

/-- 11 R200: a byte of the indicator moves the sample receiver, or completes a sample frame. -/
theorem execIndicatorReceivedByte_tended (b : BridgeId) (x : Byte) :
    ∃ t, execIndicatorReceivedByte b x s = .next t ∧ Tended s t := by
  unfold execIndicatorReceivedByte
  split
  · exact ⟨s, rfl, .refl s⟩
  · split
    · refine ⟨_, rfl, ?_⟩
      split <;> exact .of_desk rfl
    · split
      · split
        · exact execSampleEvent_tended s b _ _
        · exact execBadSampleFrame_tended s b
      · exact ⟨_, rfl, .of_desk rfl⟩

variable (p : Port)

theorem execJobStart_tended : ∃ t, execJobStart p s = .next t ∧ Tended s t := by
  refine ⟨_, rfl, .of_desk ?_⟩
  split
  · split <;> rfl
  · rfl

theorem execStatusReady_tended : ∃ t, execStatusReady p s = .next t ∧ Tended s t := by
  refine ⟨_, rfl, .of_desk ?_⟩
  split
  · rfl
  · cases (s.printer p).state with
    | unknown => rfl
    | offline => exact s.readyOrRestart_desk p
    | faulted => exact s.readyOrRestart_desk p
    | late => exact s.restartLate_desk p
    | absent => rfl
    | ready => rfl
    | printing => rfl

theorem execStatusDone_tended : ∃ t, execStatusDone p s = .next t ∧ Tended s t := by
  refine ⟨_, rfl, .of_desk ?_⟩
  split
  · split
    · exact s.acknowledge_desk p _ _
    · rfl
  · rfl

theorem execStatusBusy_tended : ∃ t, execStatusBusy p s = .next t ∧ Tended s t := by
  refine ⟨_, rfl, .of_desk ?_⟩
  split <;> rfl

theorem execFaultByte_tended (r : FaultReason) : ∃ t, execFaultByte p r s = .next t ∧ Tended s t := by
  refine ⟨_, rfl, .of_desk ?_⟩
  split
  · rfl
  · split <;> rfl

theorem execLineTimerExpiry_tended : ∃ t, execLineTimerExpiry p s = .next t ∧ Tended s t := by
  refine ⟨_, rfl, .of_desk ?_⟩
  split
  · rfl
  · split <;> rfl

theorem execInterByteTimeout_tended : ∃ t, execInterByteTimeout p s = .next t ∧ Tended s t := by
  refine ⟨_, rfl, ?_⟩
  split
  · exact .idleReceiver s p
  · exact .refl s

theorem execBreakCondition_tended : ∃ t, execBreakCondition p s = .next t ∧ Tended s t := by
  refine ⟨_, rfl, ?_⟩
  split
  · exact .idleReceiver s p
  · exact .refl s

theorem execAnswerTransmitted_tended : ∃ t, execAnswerTransmitted p s = .next t ∧ Tended s t := by
  refine ⟨_, rfl, ?_⟩
  split
  · exact .refl s
  · exact .setConsole Console.Sound.transmitted

theorem execMainReset_tended (cause : ResetCause) : ∃ t, execMainReset cause s = .next t ∧ Tended s t := by
  refine ⟨_, rfl, ?_⟩
  split
  · exact .of_desk (s.assertBy_desk cause)
  · exact (Tended.loseMain s).trans (.of_desk (State.assertBy_desk _ cause))

theorem execMainResetRelease_tended (pins : ReleasePins) : ∃ t, execMainResetRelease pins s = .next t ∧ Tended s t := by
  refine ⟨_, rfl, ?_⟩
  split
  · exact .release s pins
  · exact .refl s

/-- 11 R203: no backup default is a console port's. -/
theorem execBackupPowerOnReset_tended : ∃ t, execBackupPowerOnReset s = .next t ∧ Tended s t := by
  have asserted : Tended s (if s.inReset then s.assertBy .vcore else s.loseMain.assertBy .vcore) := by
    split
    · exact .of_desk (s.assertBy_desk .vcore)
    · exact (Tended.loseMain s).trans (.of_desk (State.assertBy_desk _ .vcore))
  exact ⟨_, rfl, asserted.trans (.of_desk rfl)⟩

end Events

/-! ### Every command -/

/-- Every command but a console byte. -/
theorem exec_tended_unless_byte (c : Instr) (s : State) (notByte : ∀ p b, c ≠ .consoleReceivedByte p b) :
    ∃ t, exec c s = .next t ∧ Tended s t := by
  cases c with
  | abort p f => exact takeRequest_tended fun r u on room _ => abortReply_tended on room r _
  | queryStatus p f => exact takeRequest_tended_of_desk (by decide) fun _ _ => rfl
  | openTicket p f => exact takeRequest_tended_of_desk (by decide) fun r u => openTicketReply_desk p u r
  | weighDrop p f => exact takeRequest_tended_of_desk (by decide) fun r u => weighReply_desk p u true r
  | weighTare p f => exact takeRequest_tended_of_desk (by decide) fun r u => weighReply_desk p u false r
  | storeTare p f => exact takeRequest_tended_of_desk (by decide) fun r u => storeTareReply_desk p u r
  | applyStoredTare p f => exact takeRequest_tended_of_desk (by decide) fun r u => applyTareReply_desk p u r
  | zero p f => exact takeRequest_tended_of_desk (by decide) fun r u => zeroReply_desk p u r
  | setDeduction p f => exact takeRequest_tended_of_desk (by decide) fun r u => setDeductionReply_desk p u r
  | setParty p f => exact takeRequest_tended_of_desk (by decide) fun r u => setPartyReply_desk p u r
  | openTill p f => exact takeRequest_tended_of_desk (by decide) fun r u => openTillReply_desk p u r
  | loadCash p f => exact takeRequest_tended_of_desk (by decide) fun r u => loadCashReply_desk p u r
  | closeTill p f => exact takeRequest_tended_of_desk (by decide) fun r u => closeTillReply_desk p u r
  | pay p f => exact takeRequest_tended_of_desk (by decide) fun r u => payReply_desk p u r
  | forceCloseTill p f => exact takeRequest_tended_of_desk (by decide) fun r u => forceCloseTillReply_desk p u r
  | setPayoutLimits p f => exact takeRequest_tended_of_desk (by decide) fun _ _ => rfl
  | setGrade p f => exact takeRequest_tended_of_desk (by decide) fun r u => setGradeReply_desk p u r
  | removeGrade p f => exact takeRequest_tended_of_desk (by decide) fun r u => removeGradeReply_desk p u r
  | deleteTare p f => exact takeRequest_tended_of_desk (by decide) fun r u => deleteTareReply_desk p u r
  | setTareValidity p f => exact takeRequest_tended_of_desk (by decide) fun _ _ => rfl
  | setBridge p f => exact takeRequest_tended_of_desk (by decide) fun r u => setBridgeReply_desk p u r
  | setHeaderLine p f => exact takeRequest_tended_of_desk (by decide) fun _ _ => rfl
  | setHeaderCell p f => exact takeRequest_tended_of_desk (by decide) fun _ _ => rfl
  | setPrinter p f => exact takeRequest_tended_of_desk (by decide) fun _ _ => rfl
  | setClock p f => exact takeRequest_tended_of_desk (by decide) fun _ _ => rfl
  | alignMinute p f => exact takeRequest_tended_of_desk (by decide) fun r u => alignMinuteReply_desk p u r
  | voidTicket p f => exact takeRequest_tended_of_desk (by decide) fun r u => voidTicketReply_desk p u r
  | dayClose p f => exact takeRequest_tended_of_desk (by decide) fun r u => dayCloseReply_desk p u r
  | copy p f => exact takeRequest_tended_of_desk (by decide) fun r u => copyReply_desk p u r
  | discardJob p f => exact takeRequest_tended_of_desk (by decide) fun r u => discardJobReply_desk p u r
  | queryTicket p f => exact takeRequest_tended_of_desk (by decide) fun r u => queryTicketReply_desk p u r
  | listTickets p f => exact takeRequest_tended_of_desk (by decide) fun _ _ => rfl
  | queryBridge p f => exact takeRequest_tended_of_desk (by decide) fun _ _ => rfl
  | queryGrade p f => exact takeRequest_tended_of_desk (by decide) fun r u => queryGradeReply_desk p u r
  | queryTare p f => exact takeRequest_tended_of_desk (by decide) fun r u => queryTareReply_desk p u r
  | queryTill p f => exact takeRequest_tended_of_desk (by decide) fun _ _ => rfl
  | queryPrinter p f => exact takeRequest_tended_of_desk (by decide) fun _ _ => rfl
  | queryJournal p f => exact takeRequest_tended_of_desk (by decide) fun r u => queryJournalReply_desk p u r
  | queryTotals p f => exact takeRequest_tended_of_desk (by decide) fun r u => queryTotalsReply_desk p u r
  | badFrame p cls => exact ⟨_, rfl, takeFrame_tended fun _ on room => .answer on room _⟩
  | badClass p cls => exact ⟨_, rfl, takeFrame_tended fun _ on room => .answer on room _⟩
  | interByteTimeout p => exact execInterByteTimeout_tended s p
  | breakCondition p => exact execBreakCondition_tended s p
  | answerTransmitted p => exact execAnswerTransmitted_tended s p
  | sampleEvent b raw status => exact execSampleEvent_tended s b raw status
  | badSampleFrame b => exact execBadSampleFrame_tended s b
  | sampleGapTimeout b => exact execBadSampleFrame_tended s b
  | staleTimerExpiry b => exact execStaleTimerExpiry_tended s b
  | beamEvent b e high => exact execBeamEvent_tended s b e high
  | motionDeadline b => exact execMotionDeadline_tended s b
  | statusReady p => exact execStatusReady_tended s p
  | statusDone p => exact execStatusDone_tended s p
  | statusBusy p => exact execStatusBusy_tended s p
  | faultByte p r => exact execFaultByte_tended s p r
  | lineTimerExpiry p => exact execLineTimerExpiry_tended s p
  | jobStart p => exact execJobStart_tended s p
  | secondBoundary => exact ⟨_, rfl, .of_desk rfl⟩
  | mainReset cause => exact execMainReset_tended s cause
  | mainResetRelease pins => exact execMainResetRelease_tended s pins
  | backupPowerOnReset => exact execBackupPowerOnReset_tended s
  | consoleReceivedByte p b => exact absurd rfl (notByte p b)
  | indicatorReceivedByte b x => exact execIndicatorReceivedByte_tended s b x

/-- 10 R183, R187: a complete frame is a command of its port. -/
theorem frameMeaning_tended (p : Port) (body : List Byte) (good : Bool) (s : State) :
    ∃ t, frameMeaning p body good s = .next t ∧ Tended s t := by
  unfold frameMeaning
  split
  · exact ⟨_, rfl, .idleReceiver s p⟩
  · rename_i cls fields
    split
    · obtain ⟨c, frame, meaning⟩ := requestMeaning_command p cls fields s
      rw [meaning]
      exact exec_tended_unless_byte c s fun q b byte => by rw [byte] at frame; contradiction
    · exact exec_tended_unless_byte (.badFrame p cls) s fun _ _ byte => by contradiction

/-- 10 R182, R183: the running sum of a frame goes with its bytes, to the last. -/
theorem receivedBody_sound {n sum : Nat} {bytes : List Byte} (sound : (Receiver.body n bytes sum).Sound = true) (b : Byte) :
    (if bytes.length + 1 < n then Receiver.body n (bytes ++ [b]) (sum + b.toNat)
      else .check n (bytes ++ [b]) (sum + b.toNat)).Sound = true := by
  simp only [Receiver.Sound, Bool.and_eq_true, decide_eq_true_iff] at sound
  obtain ⟨⟨short, bounded⟩, summed⟩ := sound
  have length : (bytes ++ [b]).length = bytes.length + 1 := List.length_append
  have total : ((bytes ++ [b]).map BitVec.toNat).sum = (bytes.map BitVec.toNat).sum + b.toNat := by simp
  split
  · simp only [Receiver.Sound, Bool.and_eq_true, decide_eq_true_iff, length, total]
    omega
  · simp only [Receiver.Sound, Bool.and_eq_true, decide_eq_true_iff, length, total]
    omega

theorem execConsoleReceivedByte_tended (p : Port) (b : Byte) (s : State) :
    ∃ t, execConsoleReceivedByte p b s = .next t ∧ Tended s t := by
  unfold execConsoleReceivedByte
  split
  · rename_i hears
    obtain ⟨-, on⟩ := (s.hears_iff p).mp hears
    split
    · refine ⟨_, rfl, ?_⟩
      split
      · exact .setConsole fun h => h.receiving on (by simp) rfl
      · exact .refl s
    · refine ⟨_, rfl, ?_⟩
      split
      · rename_i length
        exact .setConsole fun h => h.receiving on (by simp) (by simp [Receiver.Sound]; omega)
      · exact .idleReceiver s p
    · rename_i n bytes sum rx
      refine ⟨_, rfl, .setConsole fun h => h.receiving on (by split <;> simp) (receivedBody_sound ?_ b)⟩
      obtain ⟨-, -, -, -, -, sound⟩ := h
      rwa [rx] at sound
    · exact frameMeaning_tended p _ _ s
  · exact ⟨s, rfl, .refl s⟩

theorem exec_tended (c : Instr) (s : State) : ∃ t, exec c s = .next t ∧ Tended s t := by
  by_cases byte : ∃ p b, c = .consoleReceivedByte p b
  · obtain ⟨p, b, rfl⟩ := byte
    exact execConsoleReceivedByte_tended p b s
  · exact exec_tended_unless_byte c s fun p b is => byte ⟨p, b, is⟩

/-! ### The obligations -/

/-- Settles O2: no arm stops the part, and what a command changes, the queue is no part of. -/
theorem commandsCompleteAndKeepTheQueue : Obligations.CommandsCompleteAndKeepTheQueue := fun c s =>
  have ⟨t, runs, tended⟩ := exec_tended c s
  ⟨t, runs, tended.queue⟩

/-- Settles O52: the command at the front of the queue keeps the ports sound, and so does an empty queue. -/
theorem stepsKeepConsolesSound : Obligations.StepsKeepConsolesSound := by
  intro s t sound taken
  unfold step at taken
  split at taken
  · obtain rfl := Host.Outcome.next.inj taken
    exact sound
  · rename_i c rest _
    obtain ⟨u, runs, tended⟩ := exec_tended c { s with pending := rest }
    obtain rfl := Host.Outcome.next.inj (runs.symm.trans taken)
    exact tended.sound sound

end Sys2Proof.Machine
end

section
/-! PROOFS. Frames at a console port: what its bytes run, when it is taken, and the order in which it is examined (10 R182 to R189,
R194). -/

namespace Sys2Proof.Machine

/-! ### Frames (10 R183, R186) -/

/-- 10 R186: the command is taken as a frame of port `p`, or discarded as one. -/
def FrameAt (p : Port) (c : Instr) : Prop := ∃ act, ∀ s, exec c s = .next (takeFrame p s act)

theorem frameAt_badFrame (p : Port) (cls : Byte) : FrameAt p (.badFrame p cls) := ⟨_, fun _ => rfl⟩

theorem frameAt_badClass (p : Port) (cls : Byte) : FrameAt p (.badClass p cls) := ⟨_, fun _ => rfl⟩

theorem frameAt_of_isFrame {c : Instr} {p : Port} (frame : c.isFrame = true) (port : c.receivePort = some p) :
    FrameAt p c := by
  cases c
  case interByteTimeout | breakCondition | consoleReceivedByte => contradiction
  all_goals cases port
  all_goals exact ⟨_, fun _ => rfl⟩

section Frame

variable {p : Port} {s : State} (hears : s.hears p = true)
include hears

theorem takeFrame_room (room : (s.console p).spoken < 4) (act : State → State) :
    takeFrame p s act = act (s.idleReceiver p) := by
  rw [takeFrame_eq, if_pos hears, if_pos room]

theorem takeFrame_answered (room : (s.console p).spoken < 4) (cls : Byte) (r : ResultCode) :
    takeFrame p s (fun u => u.answer p ⟨cls, r, []⟩) = s.answered p cls r [] := by
  rw [takeFrame_room hears room, State.answer_idleReceiver]

theorem takeFrame_full (full : 4 ≤ (s.console p).spoken) (act : State → State) :
    takeFrame p s act = s.setConsole p (s.console p).heard := by
  rw [takeFrame_eq, if_pos hears, if_neg (not_lt.mpr full)]
  rfl

end Frame

/-- 10 R194: the next answer, if there is one, is begun. -/
theorem Console.transmitted_cons {c : Console} {a : Answer} {rest : List Answer} (answers : c.answers = a :: rest) :
    c.transmitted = { c with answers := rest, tx := if rest.isEmpty then .idle else .sending 0 } := by
  unfold Console.transmitted
  rw [answers]

/-- Settles O4: a frame with no free place stops at its receiver, and the oldest answer leaves the queue once it is sent. -/
theorem framesNeedRoomAndAnswersFreeIt : Obligations.FramesNeedRoomAndAnswersFreeIt := by
  refine ⟨fun c p s frame port hears full => ?discarded, fun p a rest s awake answers => ?sent⟩
  case discarded =>
    obtain ⟨act, runs⟩ := frameAt_of_isFrame frame port
    rw [runs, takeFrame_full hears full]
  case sent =>
    have transmitted : exec (.answerTransmitted p) s = .next (s.setConsole p (s.console p).transmitted) := by
      show execAnswerTransmitted p s = _
      rw [execAnswerTransmitted, awake]
      rfl
    rw [transmitted, Console.transmitted_cons answers]
    cases rest <;> rfl

/-! ### The class table (10 R188, R189, 11 R198) -/

/-- 10 R187: the command is a request of class `cls`, permitted to the roles of the table, its body read as the table says. -/
inductive RequestOf (cls : Byte) (p : Port) (fields : List Byte) (c : Instr) : Prop where
  | intro {α : Type} {permitted : Role → Bool} {decode : List Byte → Option α} {act : Port → α → State → Reply}
      (runs : ∀ s, exec c s = takeRequest cls permitted decode act p fields s)
      (roles : ∀ r ∈ [Role.weigh, .pay, .office], permitted r = decide (r ∈ permittedRoles cls))
      (body : (decode fields).isSome = bodyDecodes cls fields)

/-- Each row of the class table is the request of its class byte. The bytes are taken apart because a class without fields
asks only whether there are any. -/
theorem classTable_requests (p : Port) (fields : List Byte) :
    ∀ row ∈ Decode.classTable, RequestOf row.1 p fields (row.2 p fields) := by
  simp only [Decode.classTable, List.cons_append, List.nil_append, List.forall_mem_cons, List.not_mem_nil, false_implies,
    implies_true, and_true]
  and_intros
  all_goals exact .intro (fun _ => rfl) (by decide) (by cases fields <;> rfl)

theorem requestOf_requestCommand {cls : Byte} {p : Port} {fields : List Byte} {c : Instr}
    (named : Decode.requestCommand cls p fields = some c) : RequestOf cls p fields c := by
  obtain ⟨row, found, rfl⟩ := Option.map_eq_some_iff.mp named
  obtain rfl : row.1 = cls := by simpa using List.find?_some found
  exact classTable_requests p fields row (List.mem_of_find?_eq_some found)

theorem RequestOf.frameAt {cls : Byte} {p : Port} {fields : List Byte} {c : Instr} (h : RequestOf cls p fields c) :
    FrameAt p c := by
  obtain ⟨runs, -, -⟩ := h
  exact ⟨_, runs⟩

/-- 10 R187 steps 1 and 2: whatever a good frame is, it is a frame of its port. -/
theorem frameAt_of_class (p : Port) (cls : Byte) (fields : List Byte) :
    FrameAt p ((Decode.requestCommand cls p fields).getD (.badClass p cls)) := by
  cases named : Decode.requestCommand cls p fields with
  | none => exact frameAt_badClass p cls
  | some c => exact (requestOf_requestCommand named).frameAt

/-! ### The examination (10 R187 steps 3 to 5) -/

section Examine

variable {α : Type} {cls : Byte} {permitted : Role → Bool} {decode : List Byte → Option α} {act : Port → α → State → Reply}
  {p : Port} {fields : List Byte} {s : State}

theorem examine_busy (flight : (s.console p).inFlight.isSome = true) (other : cls ≠ abortClass) :
    examine cls permitted decode act p fields s = s.answer p ⟨cls, .busy, []⟩ :=
  if_pos (by rw [flight, Bool.true_and]; exact bne_iff_ne.mpr other)

theorem examine_notPermitted (free : (s.console p).inFlight = none ∨ cls = abortClass)
    (role : permitted (s.console p).role = false) :
    examine cls permitted decode act p fields s = s.answer p ⟨cls, .notPermitted, []⟩ := by
  unfold examine
  rw [if_neg (by rcases free with h | h <;> simp [h]), if_pos (by simp [role])]

theorem examine_badField (free : (s.console p).inFlight = none ∨ cls = abortClass)
    (role : permitted (s.console p).role = true) (body : decode fields = none) :
    examine cls permitted decode act p fields s = s.answer p ⟨cls, .badField, []⟩ := by
  unfold examine
  rw [if_neg (by rcases free with h | h <;> simp [h]), if_neg (by simp [role]), body]

end Examine

theorem Role.mem_of_ne_off {r : Role} (on : r ≠ .off) : r ∈ [Role.weigh, .pay, .office] := by
  cases r
  case off => exact absurd rfl on
  all_goals decide

/-- Settles O5: a frame is answered by its first failure, and the examination reads no receiver. -/
theorem framesAreExaminedInOrder : Obligations.FramesAreExaminedInOrder := by
  refine ⟨fun p cls s hears room => ⟨?badFrame, fun _ => ?badClass⟩, fun cls p fields c s named hears room => ?request⟩
  case badFrame => exact congrArg Host.Outcome.next (takeFrame_answered hears room cls .badFrame)
  case badClass => exact congrArg Host.Outcome.next (takeFrame_answered hears room cls .badClass)
  case request =>
    obtain ⟨runs, roles, body⟩ := requestOf_requestCommand named
    have permits := roles _ (Role.mem_of_ne_off ((s.hears_iff p).mp hears).2)
    have heard : (s.idleReceiver p).console p = (s.console p).heard := s.idleReceiver_console_self p
    rw [runs, takeRequest, takeFrame_room hears room]
    simp only [← State.answer_idleReceiver]
    refine ⟨fun flight other => ?_, fun free => ⟨fun barred => ?_, fun allowed undecoded => ?_⟩⟩
    · rw [examine_busy (by rw [heard]; exact flight) other]
    · rw [examine_notPermitted (by rw [heard]; exact free) (by rw [heard]; exact permits.trans (decide_eq_false barred))]
    · rw [examine_badField (by rw [heard]; exact free) (by rw [heard]; exact permits.trans (decide_eq_true allowed))
        (by rwa [← body, Option.isSome_eq_false_iff, Option.isNone_iff_eq_none] at undecoded)]

/-! ### The receiver (10 R182 to R185) -/

section Receiver

variable {p : Port} {s : State} (hears : s.hears p = true)
include hears

theorem exec_byte_idle (rx : (s.console p).rx = .idle) (x : Byte) :
    exec (.consoleReceivedByte p x) s = .next (if x = 0xA6#8 then s.receiving p .length else s) := by
  show execConsoleReceivedByte p x s = _
  rw [execConsoleReceivedByte, if_pos hears, rx]

theorem exec_byte_length (rx : (s.console p).rx = .length) (x : Byte) :
    exec (.consoleReceivedByte p x) s = .next
      (if 1 ≤ x.toNat ∧ x.toNat ≤ 250 then s.receiving p (.body x.toNat [] x.toNat) else s.idleReceiver p) := by
  show execConsoleReceivedByte p x s = _
  rw [execConsoleReceivedByte, if_pos hears, rx]

theorem exec_byte_body {n sum : Nat} {bytes : List Byte} (rx : (s.console p).rx = .body n bytes sum) (x : Byte) :
    exec (.consoleReceivedByte p x) s = .next (s.receiving p
      (if bytes.length + 1 < n then .body n (bytes ++ [x]) (sum + x.toNat) else .check n (bytes ++ [x]) (sum + x.toNat))) := by
  show execConsoleReceivedByte p x s = _
  rw [execConsoleReceivedByte, if_pos hears, rx]

theorem exec_byte_check {n sum : Nat} {bytes : List Byte} (rx : (s.console p).rx = .check n bytes sum) (x : Byte) :
    exec (.consoleReceivedByte p x) s = frameMeaning p bytes (Decode.consoleCheckGood sum x) s := by
  show execConsoleReceivedByte p x s = _
  rw [execConsoleReceivedByte, if_pos hears, rx]

theorem exec_breakCondition : exec (.breakCondition p) s = .next (s.idleReceiver p) := by
  show execBreakCondition p s = _
  rw [execBreakCondition, if_pos hears]

theorem exec_interByteTimeout : exec (.interByteTimeout p) s =
    .next (if (s.console p).interByteTimer then s.idleReceiver p else s) := by
  show execInterByteTimeout p s = _
  rw [execInterByteTimeout, hears, Bool.true_and]

end Receiver

/-- Settles O6: the receiver's state, byte by byte, and what ends a frame in progress. -/
theorem receiverCollectsAndAbandonsFrames : Obligations.ReceiverCollectsAndAbandonsFrames := by
  refine ⟨fun p x s hears => ⟨fun rx => ?idle, fun rx => ?length, fun n bytes sum rx => ?body⟩,
    fun p s hears => ⟨exec_breakCondition hears, fun running => ?expired, fun stopped => ?unexpired⟩⟩
  case idle => exact exec_byte_idle hears rx x
  case length =>
    rw [exec_byte_length hears rx]
    split <;> rfl
  case body => exact exec_byte_body hears rx x
  case expired =>
    rw [exec_interByteTimeout hears, if_pos running]
    rfl
  case unexpired => rw [exec_interByteTimeout hears, if_neg (by simp [stopped])]

/-! ### A whole frame (10 R183, R187) -/

/-- 11 R198: a good frame runs the command that the class table has for it, or BAD_CLASS. -/
theorem requestMeaning_eq (p : Port) (cls : Byte) (fields : List Byte) (s : State) :
    requestMeaning p cls fields s = exec ((Decode.requestCommand cls p fields).getD (.badClass p cls)) s := by
  have byte {k : Nat} (h : cls.toNat = k) : cls = BitVec.ofNat 8 k := by rw [← h, BitVec.ofNat_toNat, BitVec.setWidth_eq]
  unfold requestMeaning
  split
  case h_40 =>
    have unnamed : ∀ row ∈ Decode.classTable, cls.toNat ≠ row.1.toNat := by
      simp only [Decode.classTable, List.cons_append, List.nil_append, List.forall_mem_cons,
        List.not_mem_nil, false_implies, implies_true, and_true]
      and_intros <;> assumption
    have missing : Decode.requestCommand cls p fields = none := by
      rw [Decode.requestCommand, Option.map_eq_none_iff, List.find?_eq_none]
      exact fun row mem same => unnamed row mem (congrArg BitVec.toNat (eq_of_beq same).symm)
    rw [missing]
    rfl
  all_goals
    rename_i h
    rw [byte h]
    rfl

section Receiving

variable {s : State} {p : Port}

theorem State.receiving_console (rx : Receiver) :
    (s.receiving p rx).console p = { s.console p with rx, interByteTimer := true } := s.console_setConsole_self p _

theorem State.receiving_receiving (rx rx' : Receiver) : (s.receiving p rx).receiving p rx' = s.receiving p rx' := by
  unfold State.receiving
  rw [State.console_setConsole_self, State.setConsole_setConsole]

theorem State.receiving_idleReceiver (rx : Receiver) : (s.receiving p rx).idleReceiver p = s.idleReceiver p := by
  unfold State.receiving State.idleReceiver
  rw [State.console_setConsole_self, State.setConsole_setConsole]

variable (hears : s.hears p = true)
include hears

theorem State.receiving_hears (rx : Receiver) : (s.receiving p rx).hears p = true := by
  obtain ⟨awake, on⟩ := (s.hears_iff p).mp hears
  exact (State.hears_iff _ p).mpr ⟨awake, by rw [State.receiving_console]; exact on⟩

/-- 10 R183: a frame is taken as it is from IDLE, whatever the receiver holds. -/
theorem FrameAt.exec_receiving {c : Instr} (frame : FrameAt p c) (rx : Receiver) :
    exec c (s.receiving p rx) = exec c s := by
  obtain ⟨act, runs⟩ := frame
  have spoken : ((s.receiving p rx).console p).spoken = (s.console p).spoken := by
    rw [State.receiving_console]
    rfl
  rw [runs, runs, takeFrame_eq, takeFrame_eq, if_pos (State.receiving_hears hears rx), if_pos hears, spoken,
    State.receiving_idleReceiver]

end Receiving

/-! ### Runs of received bytes -/

/-- The state with the commands `q` in its queue. -/
def State.waiting (s : State) (q : List Instr) : State := { s with pending := q }

theorem Core.run_of_step {M : Host.Core} {s t : M.State} (next : M.step s = .next t) (k : Nat) :
    M.run (k + 1) s = M.run k t := by
  rw [Host.Core.run, next]

theorem run_next {s t : State} {c : Instr} {q : List Instr} (takes : exec c (s.waiting q) = .next t) (k : Nat) :
    Host.Core.run core (k + 1) (s.waiting (c :: q)) = Host.Core.run core k t :=
  Core.run_of_step (M := core) (s := s.waiting (c :: q)) (t := t) takes k

theorem run_one (s : State) (c : Instr) (q : List Instr) :
    Host.Core.run core 1 (s.waiting (c :: q)) = exec c (s.waiting q) := by
  obtain ⟨t, runs, -⟩ := exec_tended c (s.waiting q)
  rw [run_next runs 0, runs]
  rfl

section Bytes

variable {s : State} {p : Port} (hears : s.hears p = true) (q : List Instr)
include hears

theorem exec_start (idle : (s.console p).rx = .idle) :
    exec (.consoleReceivedByte p 0xA6#8) (s.waiting q) = .next ((s.receiving p .length).waiting q) :=
  exec_byte_idle (s := s.waiting q) hears idle 0xA6#8

theorem exec_length {n : Nat} (low : 1 ≤ n) (high : n ≤ 250) :
    exec (.consoleReceivedByte p (BitVec.ofNat 8 n)) ((s.receiving p .length).waiting q)
      = .next ((s.receiving p (.body n [] n)).waiting q) := by
  have value : (BitVec.ofNat 8 n).toNat = n := by rw [BitVec.toNat_ofNat]; omega
  show exec _ ((s.waiting q).receiving p .length) = .next ((s.waiting q).receiving p _)
  rw [exec_byte_length (State.receiving_hears (s := s.waiting q) hears _) (congrArg Console.rx (State.receiving_console _)), value,
    if_pos ⟨low, high⟩, State.receiving_receiving]

theorem exec_body {n sum : Nat} {bytes : List Byte} (x : Byte) :
    exec (.consoleReceivedByte p x) ((s.receiving p (.body n bytes sum)).waiting q) = .next ((s.receiving p
      (if bytes.length + 1 < n then .body n (bytes ++ [x]) (sum + x.toNat)
        else .check n (bytes ++ [x]) (sum + x.toNat))).waiting q) := by
  show exec _ ((s.waiting q).receiving p (.body n bytes sum)) = .next ((s.waiting q).receiving p _)
  rw [exec_byte_body (State.receiving_hears (s := s.waiting q) hears _) (congrArg Console.rx (State.receiving_console _)),
    State.receiving_receiving]

/-- 10 R183, R187: the check byte runs the command that the complete frame is. -/
theorem exec_check {n sum : Nat} {cls : Byte} {fields : List Byte} (check : Byte) :
    exec (.consoleReceivedByte p check) ((s.receiving p (.check n (cls :: fields) sum)).waiting q)
      = exec (if (sum + check.toNat) % 256 ≠ 0 then .badFrame p cls
          else (Decode.requestCommand cls p fields).getD (.badClass p cls)) (s.waiting q) := by
  show exec _ ((s.waiting q).receiving p _) = _
  rw [exec_byte_check (State.receiving_hears (s := s.waiting q) hears _) (congrArg Console.rx (State.receiving_console _)),
    frameMeaning, Decode.consoleCheckGood, requestMeaning_eq]
  by_cases good : (sum + check.toNat) % 256 = 0
  · rw [if_pos (by simp [good]), if_neg (not_not.mpr good)]
    exact (frameAt_of_class p cls fields).exec_receiving (s := s.waiting q) hears _
  · rw [if_neg (by simp [good]), if_pos good]
    exact (frameAt_badFrame p cls).exec_receiving (s := s.waiting q) hears _

/-- 10 R182: the bytes of a body, to the last one, bring the receiver to CHECK with all of them. -/
theorem run_body (k n : Nat) (x : Byte) (body bytes : List Byte) (sum : Nat) (length : n = bytes.length + body.length + 1) :
    Host.Core.run core (k + body.length + 1)
        ((s.receiving p (.body n bytes sum)).waiting ((x :: body).map (.consoleReceivedByte p) ++ q))
      = Host.Core.run core k ((s.receiving p
          (.check n (bytes ++ x :: body) (sum + ((x :: body).map BitVec.toNat).sum))).waiting q) := by
  induction body generalizing x bytes sum with
  | nil =>
    refine (run_next (exec_body hears q x) k).trans ?_
    rw [if_neg (by simp at length; omega)]
    simp
  | cons y body ih =>
    refine (run_next (exec_body hears _ x) _).trans ?_
    rw [if_pos (by simp at length; omega)]
    refine (ih y (bytes ++ [x]) (sum + x.toNat) (by simp at length ⊢; omega)).trans ?_
    simp [Nat.add_assoc]

end Bytes

/-- Settles O7: the start, the length and the body bring the receiver to CHECK, where the check byte runs the frame. -/
theorem frameBytesRunTheCommand : Obligations.FrameBytesRunTheCommand := by
  intro p cls fields check rest s hears idle _ short
  refine (run_next (exec_start hears _ idle) (fields.length + 3)).trans ?_
  refine (run_next (exec_length hears _ (n := fields.length + 1) (by omega) (by omega)) (fields.length + 2)).trans ?_
  have listed : (cls :: fields ++ [check]).map (Instr.consoleReceivedByte p) ++ rest
      = (cls :: fields).map (.consoleReceivedByte p) ++ .consoleReceivedByte p check :: rest := by simp
  have collected := run_body hears (.consoleReceivedByte p check :: rest) 1 (fields.length + 1) cls fields []
    (fields.length + 1) (by simp)
  rw [← listed, run_one, List.nil_append, exec_check hears, List.map_cons, List.sum_cons,
    ← Nat.add_assoc (fields.length + 1), Nat.add_comm 1] at collected
  exact collected

end Sys2Proof.Machine
end

section
/-! PROOFS. QUERY-STATUS, QUERY-TILL, QUERY-PRINTER and QUERY-BRIDGE: the answer fields of the records as they stand (10 R196, 05
R107, 07 R145, 01 R21). -/

namespace Sys2Proof.Machine

/-! ### QUERY-STATUS (10 R196) -/

/-- 10 R196: the role of a port, and the class and bridge of its request in flight. -/
theorem consoleStatusFields_eq (c : Console) : consoleStatusFields c = Wire.role c.role ++ (match c.inFlight with
    | none => [0xFF, 0xFF]
    | some f => [f.cls, BitVec.ofNat 8 f.bridge.val]) := by
  unfold consoleStatusFields
  cases c.inFlight with
  | none => simp [Wire.optNum, Wire.optBridge, Wire.absent]
  | some f => simp [Wire.optNum, Wire.optBridge, Wire.num]

/-- The ports in order, as a QUERY-STATUS answer lists them. -/
theorem Four.flatMap_toList {α β : Type} (f : Four α) (g : α → List β) :
    f.toList.flatMap g = [(0 : Port), 1, 2, 3].flatMap fun k => g (f.get k) := rfl

theorem consoleStatusFields_heard (c : Console) : consoleStatusFields c.heard = consoleStatusFields c := rfl

/-- 10 R196: no field of the answer is the receiver's. -/
theorem State.statusFields_idleReceiver (s : State) (p q : Port) : (s.idleReceiver p).statusFields q = s.statusFields q := by
  have heard (k : Port) : consoleStatusFields ((s.idleReceiver p).console k) = consoleStatusFields (s.console k) := by
    rw [State.idleReceiver, State.console_setConsole]
    split
    · rw [‹k = p›]
      exact consoleStatusFields_heard _
    · rfl
  have consoles : (s.idleReceiver p).consoles.toList.flatMap consoleStatusFields =
      s.consoles.toList.flatMap consoleStatusFields := by
    rw [Four.flatMap_toList, Four.flatMap_toList]
    exact congrArg (List.flatMap · [(0 : Port), 1, 2, 3]) (funext heard)
  unfold State.statusFields
  rw [consoles]
  rfl

theorem State.statusFields_eq (s : State) (p : Port) : s.statusFields p =
    [BitVec.ofNat 8 p.val] ++ Wire.date s.clock.now.date ++ Wire.time s.clock.now.time ++ Wire.flag s.clock.valid
      ++ Wire.num 2 s.day.businessDay ++ Wire.flag s.day.storeLost
      ++ [(0 : Port), 1, 2, 3].flatMap (fun k => Wire.role (s.console k).role
            ++ (match (s.console k).inFlight with
                | none => [0xFF, 0xFF]
                | some f => [f.cls, BitVec.ofNat 8 f.bridge.val]))
      ++ [(0 : Port), 1, 2, 3].flatMap fun k => Wire.presence (s.printer k).present := by
  unfold State.statusFields
  rw [Four.flatMap_toList, Four.flatMap_toList, Wire.stamp]
  simp only [consoleStatusFields_eq, ← List.append_assoc]
  rfl

/-! ### QUERY-TILL (05 R107) -/

/-- 11 R197: the last close is a group, after its FLAG. -/
theorem Till.lastClose_group (t : Till) : Wire.group (fun x => Wire.num 5 x.1 ++ Wire.signed x.2) t.lastClose =
    match t.counted, t.overShort with
    | some counted, some overShort => [0x01] ++ Wire.num 5 counted ++ Wire.signed overShort
    | _, _ => [0x00] := by
  unfold Till.lastClose
  cases t.counted <;> cases t.overShort <;> simp [Wire.group, Wire.flag]

theorem State.tillFields_eq (s : State) (k : Port) : s.tillFields k =
    [BitVec.ofNat 8 k.val] ++ (if (s.till k).isOpen then [0x01] else [0x00]) ++ Wire.optStamp (s.till k).opened
      ++ Wire.num 4 (s.till k).float ++ Wire.num 5 (s.till k).cashLoaded ++ Wire.num 5 (s.till k).cashPaid
      ++ Wire.signed (s.till k).rounding ++ Wire.num 5 (s.till k).voucherCount ++ Wire.num 5 (s.till k).voucherAmount
      ++ Wire.num 5 (s.till k).ticketSum ++ Wire.num 5 (s.till k).ticketsPaid
      ++ Wire.num 5 ((s.till k).float + (s.till k).cashLoaded - (s.till k).cashPaid)
      ++ (match (s.till k).counted, (s.till k).overShort with
          | some counted, some overShort => [0x01] ++ Wire.num 5 counted ++ Wire.signed overShort
          | _, _ => [0x00])
      ++ Wire.num 4 s.limits.ceiling ++ Wire.num 4 s.limits.cap ++ Wire.num 1 s.limits.step ++ Wire.num 1 s.sellers.length := by
  unfold State.tillFields
  dsimp only
  rw [Till.expected_toNat, Till.lastClose_group, Wire.limits]
  simp only [← List.append_assoc]
  rfl

/-! ### QUERY-PRINTER (07 R145) -/

/-- 07 R145: the next line of a head that was begun, and the number of lines of one that prints. -/
theorem headProgress_eq (x : Printer) : headProgress x = match x.queue with
    | ⟨_, _, _, _, .printing, _, next, _⟩ :: _ => Wire.optNum 1 next ++ Wire.optNum 1 (x.rendered.map List.length)
    | ⟨_, _, _, _, .paused, _, next, _⟩ :: _ => Wire.optNum 1 next ++ [0xFF]
    | _ => [0xFF, 0xFF] := by
  unfold headProgress
  cases x.queue with
  | nil => rfl
  | cons job rest =>
    obtain ⟨kind, origin, snapshot, copyOf, state, serial, next, restarts⟩ := job
    cases state <;> rfl

theorem printerFields_eq (k : Port) (x : Printer) : printerFields k x =
    [BitVec.ofNat 8 k.val] ++ (if x.present then [0x01] else [0x00]) ++ Wire.portState x.state ++ Wire.faultReason x.fault
      ++ Wire.num 1 x.width ++ Wire.num 1 x.timeout ++ Wire.num 1 x.queue.length
      ++ x.queue.zipIdx.flatMap (fun y => Wire.num 1 (y.2 + 1) ++ Wire.jobKind y.1.kind ++ Wire.num 1 y.1.origin.val
          ++ Wire.jobState y.1.state ++ Wire.optNum 3 y.1.snapshot.ticketNumber ++ Wire.optNum 4 y.1.serial
          ++ Wire.num 1 y.1.restarts)
      ++ headProgress x := by
  unfold printerFields
  rw [Wire.list, List.length_zipIdx]
  simp only [← List.append_assoc]
  rfl

/-! ### QUERY-BRIDGE (01 R21) -/

theorem Bridge.beamsClear_eq (br : Bridge) :
    br.beamsClear = decide (br.entryBeam = .clear ∧ br.exitBeam = .clear) := by
  unfold Bridge.beamsClear
  cases br.entryBeam <;> cases br.exitBeam <;> rfl

/-! ### The obligation -/

/-- Settles O10: each query answers its record's fields, and leaves the state as its console heard it. -/
theorem statusTillPrinterAndBridgeQueries : Obligations.StatusTillPrinterAndBridgeQueries := by
  refine ⟨fun p s ready => ?status,
    fun p fields s ready => ⟨fun k decoded => ⟨?till, ?printer⟩, fun b decoded => ?bridge⟩⟩
  case status =>
    have answer : exec (.queryStatus p []) s = .next (s.answered p 0x02 .done (s.statusFields p)) := by
      rw [← s.statusFields_idleReceiver p p]
      exact takeRequest_done ready ready.anyRole noFields_nil rfl
    rw [State.statusFields_eq] at answer
    exact answer
  case till =>
    have answer : exec (.queryTill p fields) s = .next (s.answered p 0x55 .done (s.tillFields k)) :=
      takeRequest_done ready ready.anyRole decoded rfl
    rw [State.tillFields_eq] at answer
    exact answer
  case printer =>
    have answer : exec (.queryPrinter p fields) s = .next (s.answered p 0x56 .done (printerFields k (s.printer k))) :=
      takeRequest_done ready ready.anyRole decoded rfl
    rw [printerFields_eq, headProgress_eq] at answer
    exact answer
  case bridge =>
    have answer : exec (.queryBridge p fields) s = .next (s.answered p 0x52 .done (bridgeFields (s.bridge b))) :=
      takeRequest_done ready ready.anyRole decoded rfl
    rw [bridgeFields, Bridge.stable, Bridge.beamsClear_eq] at answer
    exact answer

end Sys2Proof.Machine
end

section
/-! PROOFS. The request bodies of 11 R198: a body decodes exactly when it is the fields of its request, each in the range of its
owning rule, with no byte missing and none left over (10 R189, 11 R197).

Each layout is proved in one way: the equivalence of every field reader turns the decoder into a field, the bytes after it, and so
on to the end of the body; the request fixes the fields; and what is left is that the range of each field lies in its width. -/

namespace Sys2Proof.Decode

open Sys2Proof.Machine

/-! ### Dates and times (11 R197) -/

/-- A byte is the one byte of its value. -/
theorem num_one_toNat (b : Byte) : Wire.num 1 b.toNat = [b] := by simp [Wire.num]

theorem toNat_num_one {v : Nat} (h : v < 256) : ∃ b : Byte, b.toNat = v ∧ Wire.num 1 v = [b] :=
  ⟨BitVec.ofNat 8 v, by rw [BitVec.toNat_ofNat]; omega, rfl⟩

theorem takeDate_iff (d : Date) (bs rest : List Byte) : takeDate bs = some (d, rest) ↔
    2000 ≤ d.year ∧ d.year < 2256 ∧ d.month < 256 ∧ d.day < 256 ∧ bs = Wire.date d ++ rest := by
  constructor
  · intro taken
    unfold takeDate at taken
    split at taken
    · rename_i y m d _
      cases taken
      exact ⟨by simp, by have := y.isLt; dsimp only; omega, m.isLt, d.isLt, by
        simp only [Wire.date, Nat.add_sub_cancel_left, num_one_toNat]; rfl⟩
    · contradiction
  · obtain ⟨year, month, day⟩ := d
    rintro ⟨from2000, years, months, days, rfl⟩
    obtain ⟨y, year_is, year_byte⟩ := toNat_num_one (v := year - 2000) (by dsimp only at *; omega)
    obtain ⟨m, month_is, month_byte⟩ := toNat_num_one months
    obtain ⟨d, day_is, day_byte⟩ := toNat_num_one days
    simp only [Wire.date, year_byte, month_byte, day_byte, List.cons_append, List.nil_append, takeDate, year_is, month_is,
      day_is]
    rw [Nat.add_sub_cancel' from2000]

theorem takeTime_iff (t : TimeOfDay) (bs rest : List Byte) : takeTime bs = some (t, rest) ↔
    t.hour < 256 ∧ t.minute < 256 ∧ t.second < 256 ∧ bs = Wire.time t ++ rest := by
  constructor
  · intro taken
    unfold takeTime at taken
    split at taken
    · rename_i h m s _
      cases taken
      exact ⟨h.isLt, m.isLt, s.isLt, by simp only [Wire.time, num_one_toNat]; rfl⟩
    · contradiction
  · obtain ⟨hour, minute, second⟩ := t
    rintro ⟨hours, minutes, seconds, rfl⟩
    obtain ⟨h, hour_is, hour_byte⟩ := toNat_num_one hours
    obtain ⟨m, minute_is, minute_byte⟩ := toNat_num_one minutes
    obtain ⟨s, second_is, second_byte⟩ := toNat_num_one seconds
    simp only [Wire.time, hour_byte, minute_byte, second_byte, List.cons_append, List.nil_append, takeTime, hour_is, minute_is,
      second_is]

/-- 09 R169: no month is longer than 31 days. -/
theorem monthLength_le (year month : Nat) : monthLength year month ≤ 31 := by
  unfold monthLength
  split_ifs <;> decide

/-! ### The ranges of the owning rules -/

/-- A vehicle id: 1 to 10 of its characters (02 R23). -/
theorem vehicleOk_iff (v : Text) : vehicleOk v = true ↔ vehicleFits v := by
  simp only [vehicleOk, Bool.and_eq_true, decide_eq_true_eq, List.all_eq_true, vehicleChar, and_assoc]

theorem numberOk_iff (n : Nat) : numberOk n = true ↔ numberFits n := by simp only [numberOk, decide_eq_true_eq]

theorem gradeCodeOk_iff (n : Nat) : gradeCodeOk n = true ↔ codeFits n := by simp only [gradeCodeOk, decide_eq_true_eq]

theorem sellerOk_iff (n : Option Nat) : n.all numberOk = true ↔ ∀ x ∈ n, numberFits x := by
  cases n <;> simp [numberOk]

theorem manualOk_iff (m : Option Nat) : manualOk m = true ↔ ∀ n ∈ m, n ≤ 200000 := by cases m <;> simp [manualOk]

/-- A grade name's characters (03 R46). -/
theorem nameOk_iff (t : Text) : t.all printable = true ↔ ∀ c ∈ t, 0x20 ≤ c.toNat ∧ c.toNat ≤ 0x7E := by
  simp only [List.all_eq_true, printable, decide_eq_true_eq]

/-- 03 R46: a grade has hold days, 1 to 30, exactly when it is restricted. -/
theorem holdOk_iff (restricted : Bool) (holdDays : Option Nat) :
    (if restricted then holdDays.any (fun n => decide (1 ≤ n ∧ n ≤ 30)) else holdDays.isNone) = true ↔
      restricted = holdDays.isSome ∧ ∀ n ∈ holdDays, 1 ≤ n ∧ n ≤ 30 := by
  cases restricted <;> cases holdDays <;> simp

/-! ### Choices and unread fields -/

/-- 02 R44: the number of a part of a ticket. -/
def partNumber : TicketPart → Nat
  | .summary => 0
  | .weighings => 1
  | .lines => 2

/-- 02 R45: the number of a filter of LIST-TICKETS; no filter is ANY. -/
def filterNumber : Option TicketState → Nat
  | none => 0
  | some .loaded => 1
  | some .settled => 2
  | some .held => 3
  | some .paid => 4
  | some .void => 5

section Choices

variable {α : Type} {a : α} {v : Nat}

/-- A CHOICE of two values. -/
theorem choice_eq_some {x y : Option α} :
    (if v = 0 then x else if v = 1 then y else none) = some a ↔ v = 0 ∧ x = some a ∨ v = 1 ∧ y = some a := by
  match v with
  | 0 => simp
  | 1 => simp
  | n + 2 => simp

theorem part_eq_some {part : TicketPart} :
    (if v = 0 then some TicketPart.summary else if v = 1 then some TicketPart.weighings
      else if v = 2 then some TicketPart.lines else none) = some part ↔ v = partNumber part := by
  match v with
  | 0 | 1 | 2 => cases part <;> decide
  | n + 3 => cases part <;> simp [partNumber]

theorem filter_eq_some {filter : Option TicketState} :
    [none, some TicketState.loaded, some .settled, some .held, some .paid, some .void][v]? = some filter
      ↔ v = filterNumber filter := by
  constructor
  · intro h
    match v with
    | 0 | 1 | 2 | 3 | 4 | 5 => cases h; rfl
    | n + 6 => simp at h
  · rintro rfl
    match filter with
    | none => rfl
    | some state => cases state <;> rfl

/-- A field that is carried and not read: any bytes of its width. -/
theorem exists_num_iff {n : Nat} {p : List Byte → Prop} :
    (∃ v, v < 256 ^ n ∧ p (Wire.num n v)) ↔ ∃ unread, p unread ∧ unread.length = n := by
  constructor
  · rintro ⟨v, -, h⟩
    exact ⟨_, h, num_length n v⟩
  · rintro ⟨unread, h, rfl⟩
    exact ⟨beValue unread, beValue_lt unread, by rwa [num_beValue]⟩

end Choices

/-! ### Layouts: weighing and tickets -/

theorem noFields_iff (fs : List Byte) (r : Unit) : noFields fs = some r ↔ fs = [] := by
  simp only [noFields, finish_iff, and_true]

theorem openTicket_iff (fs : List Byte) (r : OpenTicketReq) : openTicket fs = some r ↔
    (∀ v ∈ r.vehicle, vehicleFits v) ∧ (∀ n ∈ r.seller, numberFits n)
      ∧ fs = Wire.bridge r.bridge ++ Wire.optText r.vehicle ++ Wire.optNum 3 r.seller := by
  obtain ⟨bridge, vehicle, seller⟩ := r
  simp only [openTicket, bind, Option.bind_eq_some_iff, Prod.exists, takeBridge_iff, takeOptVehicle_iff, vehicleOk_iff,
    takeOptNum_iff, finish_iff, sellerOk_iff, OpenTicketReq.mk.injEq, existsAndEq, and_true, true_and, List.append_nil]
  grind

theorem weigh_iff (fs : List Byte) (r : WeighReq) : weigh fs = some r ↔
    numberFits r.ticket ∧ codeFits r.code ∧ (∀ m ∈ r.manual, m ≤ 200000)
      ∧ fs = Wire.num 3 r.ticket ++ Wire.bridge r.bridge ++ Wire.num 2 r.code ++ Wire.optNum 3 r.manual := by
  obtain ⟨ticket, bridge, code, manual⟩ := r
  simp only [weigh, bind, Option.bind_eq_some_iff, Prod.exists, takeNum_iff, takeBridge_iff, takeOptNum_iff, finish_iff,
    Bool.and_eq_true, numberOk_iff, gradeCodeOk_iff, manualOk_iff, WeighReq.mk.injEq, existsAndEq, and_true, true_and,
    List.append_nil]
  grind

theorem storeTare_iff (fs : List Byte) (r : StoreTareReq) : storeTare fs = some r ↔
    vehicleFits r.vehicle ∧ fs = Wire.bridge r.bridge ++ Wire.text r.vehicle := by
  obtain ⟨bridge, vehicle⟩ := r
  simp only [storeTare, bind, Option.bind_eq_some_iff, Prod.exists, takeBridge_iff, takeText_iff, finish_iff, vehicleOk_iff,
    StoreTareReq.mk.injEq, existsAndEq, and_true, true_and, List.append_nil]
  grind

theorem applyTare_iff (fs : List Byte) (r : ApplyTareReq) : applyTare fs = some r ↔
    numberFits r.ticket ∧ codeFits r.code ∧ (∀ m ∈ r.manual, m ≤ 200000)
      ∧ fs = Wire.num 3 r.ticket ++ Wire.num 2 r.code ++ Wire.optNum 3 r.manual := by
  obtain ⟨ticket, code, manual⟩ := r
  simp only [applyTare, bind, Option.bind_eq_some_iff, Prod.exists, takeNum_iff, takeOptNum_iff, finish_iff, Bool.and_eq_true,
    numberOk_iff, gradeCodeOk_iff, manualOk_iff, ApplyTareReq.mk.injEq, existsAndEq, and_true, true_and, List.append_nil]
  grind

theorem bridgeOnly_iff (fs : List Byte) (b : BridgeId) : bridgeOnly fs = some b ↔ fs = Wire.bridge b := by
  simp only [bridgeOnly, bind, Option.bind_eq_some_iff, Prod.exists, takeBridge_iff, finish_iff, existsAndEq, and_true,
    true_and, List.append_nil]

theorem setDeduction_iff (fs : List Byte) (r : SetDeductionReq) : setDeduction fs = some r ↔
    numberFits r.ticket ∧ 1 ≤ r.line ∧ r.line ≤ 7 ∧ (∀ m ∈ r.manual, m ≤ 200000)
      ∧ fs = Wire.num 3 r.ticket ++ Wire.num 1 r.line ++ Wire.optNum 3 r.manual := by
  obtain ⟨ticket, line, manual⟩ := r
  simp only [setDeduction, bind, Option.bind_eq_some_iff, Prod.exists, takeNum_iff, takeOptNum_iff, finish_iff,
    Bool.and_eq_true, decide_eq_true_eq, numberOk_iff, manualOk_iff, SetDeductionReq.mk.injEq, existsAndEq, and_true,
    true_and, List.append_nil]
  grind

theorem setParty_iff (fs : List Byte) (r : SetPartyReq) : setParty fs = some r ↔
    numberFits r.ticket ∧ (∀ v ∈ r.vehicle, vehicleFits v) ∧ (∀ n ∈ r.seller, numberFits n)
      ∧ (r.vehicle.isSome = true ∨ r.seller.isSome = true)
      ∧ fs = Wire.num 3 r.ticket ++ Wire.optText r.vehicle ++ Wire.optNum 3 r.seller := by
  obtain ⟨ticket, vehicle, seller⟩ := r
  simp only [setParty, bind, Option.bind_eq_some_iff, Prod.exists, takeNum_iff, takeOptVehicle_iff, vehicleOk_iff,
    takeOptNum_iff, finish_iff, Bool.and_eq_true, Bool.or_eq_true, numberOk_iff, sellerOk_iff, SetPartyReq.mk.injEq,
    existsAndEq, and_true, true_and, List.append_nil]
  grind

theorem ticketOnly_iff (fs : List Byte) (n : Nat) : ticketOnly fs = some n ↔ numberFits n ∧ fs = Wire.num 3 n := by
  simp only [ticketOnly, bind, Option.bind_eq_some_iff, Prod.exists, takeNum_iff, finish_iff, numberOk_iff, existsAndEq,
    and_true, true_and, List.append_nil]
  grind

theorem queryTicket_iff (fs : List Byte) (r : QueryTicketReq) : queryTicket fs = some r ↔
    numberFits r.ticket ∧ fs = Wire.num 3 r.ticket ++ Wire.num 1 (partNumber r.part) := by
  obtain ⟨ticket, part⟩ := r
  have width : partNumber part < 256 ^ 1 := by cases part <;> decide
  simp only [queryTicket, bind, Option.bind_eq_some_iff, Prod.exists, takeNum_iff, part_eq_some, finish_iff, numberOk_iff,
    QueryTicketReq.mk.injEq, existsAndEq, and_true, true_and, List.append_nil]
  grind

theorem listTickets_iff (fs : List Byte) (r : ListTicketsReq) : listTickets fs = some r ↔
    r.after ≤ 999999 ∧ fs = Wire.num 1 (filterNumber r.filter) ++ Wire.num 3 r.after := by
  obtain ⟨filter, after⟩ := r
  have width : filterNumber filter < 256 ^ 1 := by
    rcases filter with _ | state
    · decide
    · cases state <;> decide
  simp only [listTickets, bind, Option.bind_eq_some_iff, Prod.exists, takeNum_iff, filter_eq_some, finish_iff,
    decide_eq_true_eq, ListTicketsReq.mk.injEq, existsAndEq, and_true, true_and, List.append_nil]
  grind

/-! ### Layouts: payout -/

theorem openTill_iff (fs : List Byte) (n : Nat) : openTill fs = some n ↔ n ≤ 99999999 ∧ fs = Wire.num 4 n := by
  simp only [openTill, bind, Option.bind_eq_some_iff, Prod.exists, takeNum_iff, finish_iff, decide_eq_true_eq, existsAndEq,
    and_true, true_and, List.append_nil]
  grind

theorem loadCash_iff (fs : List Byte) (n : Nat) : loadCash fs = some n ↔ 1 ≤ n ∧ n ≤ 99999999 ∧ fs = Wire.num 4 n := by
  simp only [loadCash, bind, Option.bind_eq_some_iff, Prod.exists, takeNum_iff, finish_iff, decide_eq_true_eq, existsAndEq,
    and_true, true_and, List.append_nil]
  grind

theorem closeTill_iff (fs : List Byte) (n : Nat) : closeTill fs = some n ↔ n ≤ 999999999999 ∧ fs = Wire.num 5 n := by
  simp only [closeTill, bind, Option.bind_eq_some_iff, Prod.exists, takeNum_iff, finish_iff, decide_eq_true_eq, existsAndEq,
    and_true, true_and, List.append_nil]
  grind

theorem pay_iff (fs : List Byte) (r : PayReq) : pay fs = some r ↔
    numberFits r.ticket ∧ fs = Wire.num 3 r.ticket ++ Wire.method r.method := by
  obtain ⟨ticket, method⟩ := r
  cases method
  all_goals
    simp only [pay, bind, Option.bind_eq_some_iff, Prod.exists, takeNum_iff, choice_eq_some, finish_iff, numberOk_iff,
    PayReq.mk.injEq, reduceCtorEq, and_false, or_false, false_or, existsAndEq, and_true, true_and, List.append_nil]
    grind [Wire.method, Wire.num]

theorem portOnly_iff (fs : List Byte) (k : Port) : portOnly fs = some k ↔ fs = [BitVec.ofNat 8 k.val] := by
  simp only [portOnly, bind, Option.bind_eq_some_iff, Prod.exists, takePort_iff, finish_iff, existsAndEq, and_true, true_and,
    List.append_nil]

theorem setPayoutLimits_iff (fs : List Byte) (l : Limits) : setPayoutLimits fs = some l ↔
    l.ceiling ≤ 99999999 ∧ l.cap ≤ 99999999 ∧ l.step ∈ [1, 2, 5, 10, 20, 25, 50, 100]
      ∧ fs = Wire.num 4 l.ceiling ++ Wire.num 4 l.cap ++ Wire.num 1 l.step := by
  obtain ⟨ceiling, cap, step⟩ := l
  have width : ∀ n ∈ [1, 2, 5, 10, 20, 25, 50, 100], n < 256 ^ 1 := by decide
  simp only [setPayoutLimits, bind, Option.bind_eq_some_iff, Prod.exists, takeNum_iff, finish_iff, Bool.and_eq_true,
    decide_eq_true_eq, List.contains_iff_mem, Limits.mk.injEq, existsAndEq, and_true, true_and, List.append_nil]
  grind

/-! ### Layouts: tables and settings -/

theorem setGrade_iff (fs : List Byte) (r : SetGradeReq) : setGrade fs = some r ↔
    r.index ≤ 39 ∧ codeFits r.grade.code ∧ 1 ≤ r.grade.name.length ∧ nameFits r.grade.name ∧ r.grade.price ≤ 999999
      ∧ r.grade.perMille ≤ 500 ∧ r.grade.restricted = r.grade.holdDays.isSome ∧ (∀ n ∈ r.grade.holdDays, 1 ≤ n ∧ n ≤ 30)
      ∧ fs = Wire.num 1 r.index ++ Wire.num 2 r.grade.code ++ Wire.text r.grade.name ++ Wire.num 3 r.grade.price
          ++ Wire.num 2 r.grade.perMille ++ Wire.flag r.grade.restricted ++ Wire.optNum 1 r.grade.holdDays := by
  obtain ⟨index, code, name, price, perMille, restricted, holdDays⟩ := r
  simp only [setGrade, bind, Option.bind_eq_some_iff, Prod.exists, takeNum_iff, takeText_iff, takeFlag_iff, takeOptNum_iff,
    finish_iff, Bool.and_eq_true, decide_eq_true_eq, nameOk_iff, holdOk_iff, gradeCodeOk_iff, SetGradeReq.mk.injEq,
    GradeDef.mk.injEq, existsAndEq, and_true, true_and, List.append_nil]
  grind

theorem removeGrade_iff (fs : List Byte) (code : Nat) : removeGrade fs = some code ↔ codeFits code ∧ fs = Wire.num 2 code := by
  simp only [removeGrade, bind, Option.bind_eq_some_iff, Prod.exists, takeNum_iff, finish_iff, gradeCodeOk_iff, existsAndEq,
    and_true, true_and, List.append_nil]
  grind

theorem deleteTare_iff (fs : List Byte) (v : Text) : deleteTare fs = some v ↔ vehicleFits v ∧ fs = Wire.text v := by
  simp only [deleteTare, bind, Option.bind_eq_some_iff, Prod.exists, takeText_iff, finish_iff, vehicleOk_iff, existsAndEq,
    and_true, true_and, List.append_nil]
  grind

theorem setTareValidity_iff (fs : List Byte) (days : Nat) : setTareValidity fs = some days ↔
    1 ≤ days ∧ days ≤ 365 ∧ fs = Wire.num 2 days := by
  simp only [setTareValidity, bind, Option.bind_eq_some_iff, Prod.exists, takeNum_iff, finish_iff, decide_eq_true_eq,
    existsAndEq, and_true, true_and, List.append_nil]
  grind

theorem setBridge_iff (fs : List Byte) (r : SetBridgeReq) : setBridge fs = some r ↔
    1000 ≤ r.config.capacity ∧ r.config.capacity ≤ 200000 ∧ r.config.division ∈ [1, 2, 5, 10, 20, 50]
      ∧ r.config.capacity % r.config.division = 0 ∧ 100 ≤ r.config.capacity / r.config.division
      ∧ r.config.capacity / r.config.division ≤ 10000 ∧ 1 ≤ r.config.band ∧ r.config.band ≤ 5 ∧ 2 ≤ r.config.target
      ∧ r.config.target ≤ 16 ∧ r.config.divider ∈ [1, 2, 4, 8] ∧ 2 ≤ r.config.motionTimeout
      ∧ r.config.motionTimeout ≤ 60 ∧ 200 ≤ r.config.staleTimeout ∧ r.config.staleTimeout ≤ 5000
      ∧ r.config.staleTimeout % 100 = 0
      ∧ fs = Wire.bridge r.bridge ++ Wire.num 3 r.config.capacity ++ Wire.num 1 r.config.division ++ Wire.num 1 r.config.band
          ++ Wire.num 1 r.config.target ++ Wire.num 1 r.config.divider ++ Wire.num 1 r.config.motionTimeout
          ++ Wire.num 2 r.config.staleTimeout ++ Wire.flag r.config.positionCheck := by
  obtain ⟨bridge, capacity, division, band, target, divider, motionTimeout, staleTimeout, positionCheck⟩ := r
  simp only [setBridge, bind, Option.bind_eq_some_iff, Prod.exists, takeBridge_iff, takeNum_iff, takeFlag_iff, finish_iff,
    SetBridgeReq.mk.injEq, BridgeConfig.mk.injEq, existsAndEq, and_true, true_and, List.append_nil]
  simp only [bridgeConfigOk, Bool.and_eq_true, decide_eq_true_eq, List.contains_iff_mem]
  grind

theorem setHeaderLine_iff (fs : List Byte) (r : SetHeaderLineReq) : setHeaderLine fs = some r ↔
    r.line ≤ 5 ∧ r.text.length ≤ 255 ∧ fs = Wire.num 1 r.line ++ Wire.text r.text := by
  obtain ⟨line, text⟩ := r
  simp only [setHeaderLine, bind, Option.bind_eq_some_iff, Prod.exists, takeNum_iff, takeText_iff, finish_iff,
    decide_eq_true_eq, SetHeaderLineReq.mk.injEq, existsAndEq, and_true, true_and, List.append_nil]
  grind

theorem setHeaderCell_iff (fs : List Byte) (r : SetHeaderCellReq) : setHeaderCell fs = some r ↔
    r.line ≤ 5 ∧ r.column ≤ 47 ∧ fs = Wire.num 1 r.line ++ Wire.num 1 r.column ++ [r.char] := by
  obtain ⟨line, column, char⟩ := r
  constructor
  · intro decoded
    unfold setHeaderCell at decoded
    split at decoded
    · split at decoded
      · rename_i x y _ inStore
        cases decoded
        obtain ⟨lines, columns⟩ := inStore
        exact ⟨Nat.le_of_lt_succ lines, Nat.le_of_lt_succ columns, by simp only [num_one_toNat]; rfl⟩
      · contradiction
    · contradiction
  · rintro ⟨lines, columns, rfl⟩
    dsimp only at lines columns ⊢
    obtain ⟨x, line_is, line_byte⟩ := toNat_num_one (v := line) (by omega)
    obtain ⟨y, column_is, column_byte⟩ := toNat_num_one (v := column) (by omega)
    rw [line_byte, column_byte]
    show (if x.toNat < 6 ∧ y.toNat < 48 then some (⟨x.toNat, y.toNat, char⟩ : SetHeaderCellReq) else none) = _
    rw [line_is, column_is, if_pos ⟨by omega, by omega⟩]

theorem setPrinter_iff (fs : List Byte) (r : SetPrinterReq) : setPrinter fs = some r ↔
    r.width ∈ [32, 40, 48] ∧ 1 ≤ r.timeout ∧ r.timeout ≤ 10
      ∧ fs = [BitVec.ofNat 8 r.port.val] ++ Wire.num 1 r.width ++ Wire.num 1 r.timeout := by
  obtain ⟨port, width, timeout⟩ := r
  simp only [setPrinter, bind, Option.bind_eq_some_iff, Prod.exists, takePort_iff, takeNum_iff, finish_iff, Bool.and_eq_true,
    decide_eq_true_eq, List.contains_iff_mem, SetPrinterReq.mk.injEq, existsAndEq, and_true, true_and, List.append_nil]
  grind

theorem setClock_iff (fs : List Byte) (now : Stamp) : setClock fs = some now ↔
    2000 ≤ now.date.year ∧ now.date.year ≤ 2099 ∧ 1 ≤ now.date.month ∧ now.date.month ≤ 12 ∧ 1 ≤ now.date.day
      ∧ now.date.day ≤ monthLength now.date.year now.date.month ∧ now.time.hour ≤ 23 ∧ now.time.minute ≤ 59
      ∧ now.time.second ≤ 59 ∧ fs = Wire.date now.date ++ Wire.time now.time := by
  obtain ⟨date, time⟩ := now
  have days := monthLength_le date.year date.month
  simp only [setClock, bind, Option.bind_eq_some_iff, Prod.exists, takeDate_iff, takeTime_iff, finish_iff, stampValid,
    dateValid, timeValid, Bool.and_eq_true, decide_eq_true_eq, Stamp.mk.injEq, existsAndEq, and_true, true_and,
    List.append_nil]
  grind

/-! ### Layouts: queries with a choice -/

theorem queryGrade_code_iff (fs : List Byte) (n : Nat) : queryGrade fs = some (.code n) ↔
    codeFits n ∧ fs = [0x00] ++ Wire.num 2 n := by
  simp only [queryGrade, bind, Option.bind_eq_some_iff, Prod.exists, takeNum_iff, choice_eq_some, finish_iff, gradeCodeOk_iff,
    QueryGradeReq.code.injEq, reduceCtorEq, and_false, or_false, existsAndEq, and_true, true_and, List.append_nil]
  grind [Wire.num]

theorem queryGrade_index_iff (fs : List Byte) (i : Nat) : queryGrade fs = some (.index i) ↔
    i ≤ 39 ∧ fs = [0x01] ++ Wire.num 2 i := by
  simp only [queryGrade, bind, Option.bind_eq_some_iff, Prod.exists, takeNum_iff, choice_eq_some, finish_iff,
    decide_eq_true_eq, QueryGradeReq.index.injEq, reduceCtorEq, and_false, false_or, existsAndEq, and_true, true_and,
    List.append_nil]
  grind [Wire.num]

theorem queryTare_exact_iff (fs : List Byte) (v : Text) : queryTare fs = some (.exact v) ↔
    vehicleFits v ∧ fs = [0x00] ++ Wire.text v := by
  simp only [queryTare, bind, Option.bind_eq_some_iff, Prod.exists, takeNum_iff, takeText_iff, choice_eq_some, finish_iff,
    vehicleOk_iff, QueryTareReq.exact.injEq, reduceCtorEq, and_false, or_false, existsAndEq, and_true, true_and,
    List.append_nil]
  grind [Wire.num]

theorem queryTare_after_iff (fs : List Byte) (v : Text) : queryTare fs = some (.after v) ↔
    (v = [] ∨ vehicleFits v) ∧ fs = [0x01] ++ Wire.text v := by
  simp only [queryTare, bind, Option.bind_eq_some_iff, Prod.exists, takeNum_iff, takeText_iff, choice_eq_some, finish_iff,
    Bool.or_eq_true, List.isEmpty_iff, vehicleOk_iff, QueryTareReq.after.injEq, reduceCtorEq, and_false, false_or,
    existsAndEq, and_true, true_and, List.append_nil]
  grind [Wire.num]

theorem queryJournal_serial_iff (fs : List Byte) (n : Nat) : queryJournal fs = some (.serial n) ↔
    1 ≤ n ∧ n ≤ 99999999 ∧ fs = [0x00] ++ Wire.num 4 n := by
  simp only [queryJournal, bind, Option.bind_eq_some_iff, Prod.exists, takeNum_iff, choice_eq_some, finish_iff,
    decide_eq_true_eq, QueryJournalReq.serial.injEq, reduceCtorEq, and_false, or_false, existsAndEq, and_true, true_and,
    List.append_nil]
  grind [Wire.num]

theorem queryJournal_newest_iff (fs : List Byte) : queryJournal fs = some .newest ↔
    ∃ unread, fs = [0x01] ++ unread ∧ unread.length = 4 := by
  rw [← exists_num_iff (p := fun unread => fs = [0x01] ++ unread)]
  simp only [queryJournal, bind, Option.bind_eq_some_iff, Prod.exists, takeNum_iff, choice_eq_some, finish_iff, reduceCtorEq,
    and_false, false_or, existsAndEq, and_true, List.append_nil]
  grind [Wire.num]

theorem queryTotals_day_iff (fs : List Byte) (i : Nat) : queryTotals fs = some (.day i) ↔
    i ≤ 39 ∧ fs = [0x00] ++ Wire.num 1 i := by
  simp only [queryTotals, bind, Option.bind_eq_some_iff, Prod.exists, takeNum_iff, choice_eq_some, finish_iff,
    decide_eq_true_eq, QueryTotalsReq.day.injEq, reduceCtorEq, and_false, or_false, existsAndEq, and_true, true_and,
    List.append_nil]
  grind [Wire.num]

theorem queryTotals_grand_iff (fs : List Byte) : queryTotals fs = some .grand ↔
    ∃ unread, fs = [0x01] ++ unread ∧ unread.length = 1 := by
  rw [← exists_num_iff (p := fun unread => fs = [0x01] ++ unread)]
  simp only [queryTotals, bind, Option.bind_eq_some_iff, Prod.exists, takeNum_iff, choice_eq_some, finish_iff, reduceCtorEq,
    and_false, false_or, existsAndEq, and_true, List.append_nil]
  grind [Wire.num]

end Sys2Proof.Decode

namespace Sys2Proof.Machine

/-- Settles O8: the readers of the fields read what the encoder writes, and each layout is its fields, one reader after the
other. -/
theorem fieldsAndRequestsDecode : Obligations.FieldsAndRequestsDecode := by
  refine ⟨fun n v rest fits => ?num, fun n v rest fits => ?opt, fun n rest => ?absent, fun t rest fits => ?text,
    fun fs => ⟨Decode.noFields_iff fs, Decode.openTicket_iff fs, Decode.weigh_iff fs, Decode.storeTare_iff fs,
      Decode.applyTare_iff fs, Decode.bridgeOnly_iff fs, Decode.setDeduction_iff fs, Decode.setParty_iff fs,
      Decode.openTill_iff fs, Decode.loadCash_iff fs, Decode.closeTill_iff fs, Decode.pay_iff fs, Decode.portOnly_iff fs,
      Decode.setPayoutLimits_iff fs, Decode.setGrade_iff fs, Decode.removeGrade_iff fs, Decode.deleteTare_iff fs,
      Decode.setTareValidity_iff fs, Decode.setBridge_iff fs, Decode.setHeaderLine_iff fs, Decode.setHeaderCell_iff fs,
      Decode.setPrinter_iff fs, Decode.setClock_iff fs, Decode.ticketOnly_iff fs, fun r => ?part, fun r => ?filter,
      fun q => ?grade, fun q => ?tare, fun q => ?journal, fun q => ?totals⟩⟩
  case num => exact (Decode.takeNum_iff n v _ rest).mpr ⟨fits, rfl⟩
  case opt => exact (Decode.takeOptNum_iff n (some v) _ rest).mpr ⟨fun x same => Option.some.inj same ▸ fits, rfl⟩
  case absent => exact (Decode.takeOptNum_iff n none _ rest).mpr ⟨fun _ missing => (Option.not_mem_none _ missing).elim, rfl⟩
  case text => exact (Decode.takeText_iff t _ rest).mpr ⟨fits, rfl⟩
  case part =>
    refine (Decode.queryTicket_iff fs r).trans ?_
    cases r.part <;> rfl
  case filter =>
    refine (Decode.listTickets_iff fs r).trans ?_
    rcases r.filter with _ | state
    · rfl
    · cases state <;> rfl
  case grade =>
    cases q with
    | code n => exact Decode.queryGrade_code_iff fs n
    | index i => exact Decode.queryGrade_index_iff fs i
  case tare =>
    cases q with
    | exact v => exact Decode.queryTare_exact_iff fs v
    | after v => exact Decode.queryTare_after_iff fs v
  case journal =>
    cases q with
    | serial n => exact Decode.queryJournal_serial_iff fs n
    | newest => exact Decode.queryJournal_newest_iff fs
  case totals =>
    cases q with
    | day i => exact Decode.queryTotals_day_iff fs i
    | grand => exact Decode.queryTotals_grand_iff fs

end Sys2Proof.Machine
end

section
/-! PROOFS. The bytes of a sample frame, taken while hunting (11 R200): the start byte and four data bytes collect the frame, and the
check byte runs the command that the complete frame is. -/

namespace Sys2Proof.Machine

/-- 11 R200: the receiver of weigh link `b` holds `bytes` of a frame. -/
def State.collecting (s : State) (b : BridgeId) (bytes : List Byte) : State :=
  s.setBridge b { s.bridge b with rx := .collecting bytes }

/-- 11 R200: the three weight bytes, most significant first. -/
theorem rawWeight_eq (hi mid lo : Byte) : Decode.rawWeight hi mid lo = hi ++ mid ++ lo := by
  apply BitVec.eq_of_toNat_eq
  have value : (hi ++ mid ++ lo).toNat = (hi.toNat * 256 + mid.toNat) * 256 + lo.toNat := by
    rw [BitVec.toNat_append, BitVec.toNat_append, ← Nat.shiftLeft_add_eq_or_of_lt mid.isLt, ← Nat.shiftLeft_add_eq_or_of_lt lo.isLt,
      Nat.shiftLeft_eq, Nat.shiftLeft_eq]
  have read : Decode.beValue [hi, mid, lo] = (hi.toNat * 256 + mid.toNat) * 256 + lo.toNat := by simp [Decode.beValue]
  rw [value, Decode.rawWeight, read, BitVec.toNat_ofNat]
  omega

theorem sampleCheckGood_iff (hi mid lo status check : Byte) : Decode.sampleCheckGood [hi, mid, lo, status, check] = true ↔
    (hi.toNat + mid.toNat + lo.toNat + status.toNat + check.toNat) % 256 = 0 := by
  simp [Decode.sampleCheckGood]

section Samples

variable {s : State} {b : BridgeId}

theorem State.collecting_bridge (bytes : List Byte) :
    (s.collecting b bytes).bridge b = { s.bridge b with rx := .collecting bytes } := s.bridge_setBridge_self b _

theorem State.collecting_collecting (bytes bytes' : List Byte) :
    (s.collecting b bytes).collecting b bytes' = s.collecting b bytes' := by
  unfold State.collecting
  rw [State.bridge_setBridge_self, State.setBridge_setBridge]

/-- 01 R3: a sample leaves the receiver hunting, whatever it held. -/
theorem State.collecting_sample (bytes : List Byte) (raw : Int) (fault : Bool) :
    (s.collecting b bytes).sample b raw fault = s.sample b raw fault := by
  simp only [State.sample, State.collecting_bridge]
  simp only [State.collecting, State.setBridge_setBridge]

variable (awake : s.inReset = false)
include awake

theorem exec_badSampleFrame : exec (.badSampleFrame b) s = .next (s.setBridge b { s.bridge b with rx := .hunting }) := by
  show execBadSampleFrame b s = _
  rw [execBadSampleFrame, awake]
  rfl

theorem exec_sampleEvent_collecting (bytes : List Byte) (raw : BitVec 24) (status : Byte) :
    exec (.sampleEvent b raw status) (s.collecting b bytes) = exec (.sampleEvent b raw status) s := by
  rw [exec_sampleEvent awake, exec_sampleEvent (s := s.collecting b bytes) awake, State.collecting_sample]

theorem exec_badSampleFrame_collecting (bytes : List Byte) :
    exec (.badSampleFrame b) (s.collecting b bytes) = exec (.badSampleFrame b) s := by
  rw [exec_badSampleFrame awake, exec_badSampleFrame (s := s.collecting b bytes) awake, State.collecting_bridge,
    State.collecting, State.setBridge_setBridge]

/-- 11 R200: while hunting, 7Eh starts a frame and any other byte is discarded. -/
theorem exec_indicator_hunting (rx : (s.bridge b).rx = .hunting) (x : Byte) :
    exec (.indicatorReceivedByte b x) s = .next (if x = 0x7E#8 then s.collecting b [] else s) := by
  show execIndicatorReceivedByte b x s = _
  rw [execIndicatorReceivedByte, awake, rx]
  rfl

/-- 11 R200: the first four data bytes are kept. -/
theorem exec_indicator_data {bytes : List Byte} (short : bytes.length < 4) (x : Byte) :
    exec (.indicatorReceivedByte b x) (s.collecting b bytes) = .next (s.collecting b (bytes ++ [x])) := by
  have asleep : (s.collecting b bytes).inReset = false := awake
  show execIndicatorReceivedByte b x _ = _
  rw [execIndicatorReceivedByte, asleep, State.collecting_bridge]
  match bytes, short with
  | [], _ | [_], _ | [_, _], _ | [_, _, _], _ => exact congrArg Host.Outcome.next (State.setBridge_setBridge s b _ _)

/-- 11 R200: the check byte runs the command that the complete frame is. -/
theorem exec_indicator_check (hi mid lo status check : Byte) :
    exec (.indicatorReceivedByte b check) (s.collecting b [hi, mid, lo, status])
      = exec (if (hi.toNat + mid.toNat + lo.toNat + status.toNat + check.toNat) % 256 = 0
          then .sampleEvent b (hi ++ mid ++ lo) status else .badSampleFrame b) s := by
  have asleep : (s.collecting b [hi, mid, lo, status]).inReset = false := awake
  show execIndicatorReceivedByte b check _ = _
  rw [execIndicatorReceivedByte, asleep, State.collecting_bridge]
  simp only [Bool.false_eq_true, if_false, sampleCheckGood_iff, rawWeight_eq]
  split
  · exact exec_sampleEvent_collecting awake _ _ _
  · exact exec_badSampleFrame_collecting awake _

end Samples

/-- Settles O14: the start byte and the four data bytes are kept, and the check byte runs the frame. -/
theorem indicatorBytesAreTheSample : Obligations.IndicatorBytesAreTheSample := by
  intro b hi mid lo status check rest s awake hunting
  refine ⟨?frame, fun x other => ?discarded⟩
  case frame =>
    have start (q : List Instr) :
        exec (.indicatorReceivedByte b 0x7E#8) (s.waiting q) = .next ((s.collecting b []).waiting q) :=
      exec_indicator_hunting (s := s.waiting q) awake hunting 0x7E#8
    have data (q : List Instr) {bytes : List Byte} (short : bytes.length < 4) (x : Byte) :
        exec (.indicatorReceivedByte b x) ((s.collecting b bytes).waiting q)
          = .next ((s.collecting b (bytes ++ [x])).waiting q) :=
      exec_indicator_data (s := s.waiting q) awake short x
    refine (run_next (start _) 5).trans ?_
    refine (run_next (data _ (by simp) hi) 4).trans ?_
    refine (run_next (data _ (by simp) mid) 3).trans ?_
    refine (run_next (data _ (by simp) lo) 2).trans ?_
    refine (run_next (data _ (by simp) status) 1).trans ?_
    refine (run_one _ _ rest).trans ?_
    exact exec_indicator_check (s := s.waiting rest) awake hi mid lo status check
  case discarded => rw [exec_indicator_hunting awake hunting, if_neg other]

end Sys2Proof.Machine
end

section
/-! PROOFS. The resets (11 R202 to R204, 08 R154): what an assertion of main reset loses, what a release brings up, and the backup
domain at its power-on values. -/

namespace Sys2Proof.Machine

/-! ### Assertion (11 R202) -/

theorem State.inReset_eq_false {s : State} : s.inReset = false ↔ s.resetByPin = false ∧ s.resetBySupply = false := by
  simp [State.inReset]

theorem exec_mainReset (cause : ResetCause) (s : State) :
    exec (.mainReset cause) s = .next (if s.inReset then s.assertBy cause else s.loseMain.assertBy cause) := rfl

/-- Settles O48: outside reset the main domain is lost and its one cause recorded; in reset a cause is recorded. -/
theorem mainResetLosesTheMainDomain : Obligations.MainResetLosesTheMainDomain := by
  refine fun cause s => ⟨fun awake => ?lost, fun asleep => ?recorded⟩
  case lost =>
    obtain ⟨pin, supply⟩ := State.inReset_eq_false.mp awake
    rw [exec_mainReset, awake]
    cases cause
    · have only : s.loseMain.assertBy .resetN = { s.loseMain with resetByPin := true, resetBySupply := false } := by
        rw [← supply]
        rfl
      exact congrArg Host.Outcome.next only
    · have only : s.loseMain.assertBy .vcore = { s.loseMain with resetByPin := false, resetBySupply := true } := by
        rw [← pin]
        rfl
      exact congrArg Host.Outcome.next only
  case recorded =>
    rw [exec_mainReset, asleep]
    cases cause <;> simp [State.assertBy]

/-! ### Open receipts at a release (08 R154) -/

/-- 08 R154: an entry in PRINTING under one of the serials is made INTERRUPTED. -/
def interruptEntry (serials : List (Option Nat)) (e : JournalEntry) : JournalEntry :=
  if e.outcome = .printing ∧ some e.serial ∈ serials then { e with outcome := .interrupted } else e

/-- 08 R154: a counter with the open receipts added, unchanged where there is none. -/
def addInterrupted (count : Nat) (serials : List (Option Nat)) : Nat :=
  if serials.countP Option.isSome = 0 then count else satAdd count (serials.countP Option.isSome)

/-- 08 R154: the open receipts `serials` made INTERRUPTED and counted, the open-serial fields left at `after`. -/
def State.interrupted (s : State) (serials : List (Option Nat)) (after : Four (Option Nat)) : State :=
  { s with
    journal := s.journal.map (interruptEntry serials)
    openSerials := after
    day := { s.day with interrupted := addInterrupted s.day.interrupted serials }
    grand := { s.grand with interrupted := addInterrupted s.grand.interrupted serials } }

theorem interruptEntry_nil (e : JournalEntry) : interruptEntry [] e = e := by simp [interruptEntry]

theorem interruptEntry_none (serials : List (Option Nat)) : interruptEntry (serials ++ [none]) = interruptEntry serials := by
  funext e
  simp [interruptEntry]

/-- One receipt more: the entry is met first under the serials before it, and in a final outcome it takes no other. -/
theorem interruptEntry_some (serials : List (Option Nat)) (n : Nat) (e : JournalEntry) :
    interruptEntry (serials ++ [some n]) e =
      if (interruptEntry serials e).serial = n ∧ (interruptEntry serials e).outcome = .printing
      then { interruptEntry serials e with outcome := .interrupted } else interruptEntry serials e := by
  by_cases met : e.outcome = .printing ∧ some e.serial ∈ serials
  · simp [interruptEntry, met]
  · by_cases printing : e.outcome = .printing
    · have unmet : some e.serial ∉ serials := fun mem => met ⟨printing, mem⟩
      simp [interruptEntry, printing, unmet]
    · simp [interruptEntry, printing]

theorem addInterrupted_none (count : Nat) (serials : List (Option Nat)) :
    addInterrupted count (serials ++ [none]) = addInterrupted count serials := by
  simp [addInterrupted]

theorem addInterrupted_some (count : Nat) (serials : List (Option Nat)) (n : Nat) :
    addInterrupted count (serials ++ [some n]) = satAdd (addInterrupted count serials) 1 := by
  have one : (serials ++ [some n]).countP Option.isSome = serials.countP Option.isSome + 1 := by simp
  rw [addInterrupted, addInterrupted, one, if_neg (Nat.succ_ne_zero _)]
  split
  · rename_i empty
    rw [empty]
  · simp only [satAdd]
    omega

theorem State.interrupted_nil (s : State) : s.interrupted [] s.openSerials = s := by
  simp [State.interrupted, addInterrupted, funext interruptEntry_nil]

/-- 08 R154: the port after those that were dealt with. -/
theorem State.interrupted_interrupt (s : State) (serials : List (Option Nat)) (after : Four (Option Nat)) (p : Port) :
    (s.interrupted serials after).interrupt p = s.interrupted (serials ++ [after.get p]) (after.set p none) := by
  unfold State.interrupt
  cases opened : after.get p with
  | none =>
    have closed : after.set p none = after := by rw [← opened, Four.set_get]
    rw [show (s.interrupted serials after).openSerials = after from rfl, opened, closed]
    simp only [State.interrupted, interruptEntry_none, addInterrupted_none]
  | some n =>
    have entries : (s.interrupted serials after).journal.map (fun e => if e.serial = n ∧ e.outcome = .printing
        then { e with outcome := .interrupted } else e) = s.journal.map (interruptEntry (serials ++ [some n])) := by
      rw [State.interrupted, List.map_map]
      exact List.map_congr_left fun e _ => (interruptEntry_some serials n e).symm
    rw [show (s.interrupted serials after).openSerials = after from rfl, opened]
    simp only [State.endReceipt, State.countOutcome, journalUpdate, entries]
    simp only [State.interrupted, addInterrupted_some]

/-- 08 R154: a release makes the receipts of all four open serials INTERRUPTED. -/
theorem State.interrupt_all (s : State) : (((s.interrupt 0).interrupt 1).interrupt 2).interrupt 3 =
    s.interrupted [s.openSerials.get 0, s.openSerials.get 1, s.openSerials.get 2, s.openSerials.get 3] ⟨none, none, none, none⟩ := by
  conv_lhs => rw [← s.interrupted_nil]
  simp only [State.interrupted_interrupt]
  rfl

/-! ### Release (11 R202, R204) -/

/-- 07 R146: a printer port at the release, by its strap. -/
theorem releasedPrinter_eq (present : Bool) (width timeout : Nat) : releasedPrinter present width timeout =
    { present, state := if present then .unknown else .absent, fault := none
      lineTimer := if present then some timeout else none, queue := [], rendered := none, width, timeout
      sent := if present then [.probe] else [] } := by
  cases present <;> rfl

theorem exec_mainResetRelease (pins : ReleasePins) {s : State} (asleep : s.inReset = true) :
    exec (.mainResetRelease pins) s = .next (s.release pins) := congrArg Host.Outcome.next (if_pos asleep)

/-- Settles O49: the open receipts are interrupted one port after the other, and every block is brought up from the pins. -/
theorem releaseBringsThePartUp : Obligations.ReleaseBringsThePartUp := by
  refine fun pins s => ⟨fun awake => ?nothing, fun asleep => ?released⟩
  case nothing => exact congrArg Host.Outcome.next (if_neg (by simp [awake]))
  case released =>
    rw [exec_mainResetRelease pins asleep, State.release, State.interrupt_all]
    simp only [releasedPrinter_eq]
    rfl

/-! ### Backup power-on reset (11 R203) -/

/-- 11 R203: main reset asserted by VCORE, and the backup domain at its power-on values. -/
def State.poweredOn (s : State) : State :=
  (if s.inReset then s.assertBy .vcore else s.loseMain.assertBy .vcore).backupDefaults

theorem exec_backupPowerOnReset (s : State) : exec .backupPowerOnReset s = .next s.poweredOn := rfl

theorem State.poweredOn_inReset (s : State) : s.poweredOn.inReset = true := by
  show (if s.inReset then s.assertBy .vcore else s.loseMain.assertBy .vcore).inReset = true
  split <;> exact assertBy_inReset _ _

theorem State.poweredOn_waiting (s : State) (q : List Instr) : (s.waiting q).poweredOn = s.poweredOn.waiting q := by
  show (if s.inReset then (s.waiting q).assertBy .vcore else (s.waiting q).loseMain.assertBy .vcore).backupDefaults
    = (if s.inReset then s.assertBy .vcore else s.loseMain.assertBy .vcore).backupDefaults.waiting q
  split <;> rfl

/-- 11 R202, R203: a release loads the main domain and keeps the backup domain, in which no receipt is open at its power-on
values. -/
theorem State.poweredOn_release (s : State) : (s.poweredOn.waiting []).release resetPins = State.reset := rfl

/-- Settles O50: the backup domain at its power-on values, and the release that follows. -/
theorem backupPowerOnReset : Obligations.BackupPowerOnReset := by
  intro s
  refine ⟨⟨_, exec_backupPowerOnReset s, s.poweredOn_inReset, ?configs, rfl, rfl, rfl, rfl, rfl, ?tills, rfl, rfl, ?printers, rfl,
    rfl, ?serials, rfl, rfl, rfl, rfl⟩, ?run⟩
  case configs => intro b; fin_cases b <;> rfl
  case tills => intro p; fin_cases p <;> rfl
  case printers => intro p; fin_cases p <;> exact ⟨rfl, rfl⟩
  case serials => intro p; fin_cases p <;> rfl
  case run =>
    have powered : exec .backupPowerOnReset (s.waiting [.mainResetRelease resetPins])
        = .next (s.poweredOn.waiting [.mainResetRelease resetPins]) := by
      rw [exec_backupPowerOnReset, State.poweredOn_waiting]
    have released : exec (.mainResetRelease resetPins) (s.poweredOn.waiting []) = .next State.reset :=
      (exec_mainResetRelease resetPins (s := s.poweredOn.waiting []) s.poweredOn_inReset).trans
        (congrArg Host.Outcome.next s.poweredOn_release)
    exact (run_next powered 1).trans ((run_one _ _ []).trans released)

end Sys2Proof.Machine
end

section
/-! PROOFS. What takes nothing, and the output pins: the part in main reset, an OFF console port, an ABSENT printer port (11 R202,
10 R181, R190, R194, 07 R129, R147). -/

namespace Sys2Proof.Machine

/-! ### Deaf ports -/

/-- 10 R181, 11 R202: a port that hears nothing takes no frame, no byte and no line condition. -/
theorem exec_unheard {c : Instr} {p : Port} {s : State} (port : c.receivePort = some p) (deaf : s.hears p = false) :
    exec c s = .next s := by
  cases frame : c.isFrame with
  | true =>
    obtain ⟨act, runs⟩ := frameAt_of_isFrame frame port
    rw [runs, takeFrame_eq, if_neg (by simp [deaf])]
  | false =>
    cases c
    case interByteTimeout q =>
      obtain rfl := Option.some.inj port
      exact congrArg Host.Outcome.next (if_neg (by simp [deaf]))
    case breakCondition q =>
      obtain rfl := Option.some.inj port
      exact congrArg Host.Outcome.next (if_neg (by simp [deaf]))
    case consoleReceivedByte q x =>
      obtain rfl := Option.some.inj port
      exact if_neg (by simp [deaf])
    all_goals contradiction

/-- 07 R129, R147, 11 R202: a printer port that hears nothing takes no status byte, no expiry and no job start. -/
theorem exec_unheard_printer {c : Instr} {p : Port} {s : State} (port : c.printerPort = some p)
    (deaf : s.printerHears p = false) : exec c s = .next s := by
  cases c
  case statusReady => cases port; exact congrArg Host.Outcome.next (if_pos (by simp [deaf]))
  case statusDone => cases port; exact congrArg Host.Outcome.next (if_neg (by simp [deaf]))
  case statusBusy => cases port; exact congrArg Host.Outcome.next (if_neg (by simp [deaf]))
  case faultByte => cases port; exact congrArg Host.Outcome.next (if_pos (by simp [deaf]))
  case lineTimerExpiry => cases port; exact congrArg Host.Outcome.next (if_pos (by simp [deaf]))
  case jobStart =>
    cases port
    show execJobStart p s = _
    unfold execJobStart
    split
    · rw [if_neg (by simp [deaf])]
    · rfl
  all_goals contradiction

/-- 11 R202: in main reset the weigh links and the transmitters take nothing either. -/
theorem exec_asleep {c : Instr} {s : State} (asleep : s.inReset = true) (ignored : c.actsInReset = false) : exec c s = .next s := by
  cases receiver : c.receivePort with
  | some p => exact exec_unheard receiver (by simp [State.hears, asleep])
  | none =>
    cases printer : c.printerPort with
    | some p => exact exec_unheard_printer printer (by simp [State.printerHears, asleep])
    | none =>
      cases c
      case answerTransmitted | sampleEvent | badSampleFrame | sampleGapTimeout | motionDeadline | beamEvent =>
        exact congrArg Host.Outcome.next (if_pos asleep)
      case staleTimerExpiry => exact congrArg Host.Outcome.next (if_neg (by simp [asleep]))
      case indicatorReceivedByte => exact if_pos asleep
      all_goals contradiction

/-! ### Output pins -/

section Pins

variable {p : Port} {s : State}

theorem pins_asleep (asleep : s.inReset = true) :
    s.consoleTransmitPin p = .highZ ∧ s.busyPin p = .highZ ∧ s.printerTransmitPin p = .highZ := by
  simp [State.consoleTransmitPin, State.busyPin, State.printerTransmitPin, State.transmitPinsDriven, asleep]

theorem busyPin_awake (awake : s.inReset = false) : s.busyPin p = if (s.console p).busy then .high else .low := by
  simp [State.busyPin, awake]

theorem consoleTransmitPin_awake (awake : s.inReset = false) :
    s.consoleTransmitPin p = if (s.console p).role = .off ∨ (s.console p).tx = .idle then .high else .serial := by
  simp [State.consoleTransmitPin, State.transmitPinsDriven, awake]

theorem printerTransmitPin_awake (awake : s.inReset = false) :
    s.printerTransmitPin p = if (s.printer p).present then .serial else .high := by
  simp [State.printerTransmitPin, State.transmitPinsDriven, awake]

end Pins

/-- Settles O3: a command of a port that hears nothing changes nothing; in main reset no port hears. -/
theorem deafPartsTakeNothing : Obligations.DeafPartsTakeNothing := by
  refine ⟨fun c s asleep ignored => exec_asleep asleep ignored, fun c p s port off => exec_unheard port (by simp [State.hears, off]),
    fun c p s port absent => exec_unheard_printer port (by simp [State.printerHears, absent]), fun p s => ⟨pins_asleep,
      fun awake sound off => ?off, fun awake sound on => ?live, fun awake present => ?present, fun awake absent => ?absent⟩⟩
  case off =>
    obtain ⟨-, busy, -, -, silent, -⟩ := sound
    obtain ⟨-, -, grounded⟩ := silent off
    rw [consoleTransmitPin_awake awake, busyPin_awake awake, busy, grounded, if_pos (.inl off)]
    exact ⟨rfl, rfl⟩
  case live =>
    obtain ⟨-, busy, idle, -⟩ := sound
    rw [consoleTransmitPin_awake awake, busyPin_awake awake, busy]
    simp only [on, idle, false_or, true_and]
  case present => rw [printerTransmitPin_awake awake, if_pos present]
  case absent => rw [printerTransmitPin_awake awake, absent]; rfl

end Sys2Proof.Machine
end

section
/-! PROOFS. The state after reset meets every law that steps keep (11 R202, R203): its main domain is as a release brings it up, and
its backup domain stands at its power-on values. -/

namespace Sys2Proof.Machine

/-! ### The state after reset -/

/-- 11 R203: the backup domain after reset stands at its power-on values. -/
theorem reset_backupDefaults : State.reset.backupDefaults = State.reset := rfl

/-- 11 R202: the main domain after reset is as a release brings it up. -/
theorem reset_release : State.reset.release resetPins = State.reset := rfl

theorem reset_console (p : Port) : ∃ role, State.reset.console p = resetConsole role := by
  fin_cases p <;> exact ⟨_, rfl⟩

theorem reset_bridge (b : BridgeId) : State.reset.bridge b = resetBridge defaultConfig .clear .clear := by
  fin_cases b <;> rfl

theorem reset_till (p : Port) : State.reset.till p = closedTill := by fin_cases p <;> rfl

theorem reset_printer (p : Port) : State.reset.printer p = releasedPrinter true 40 3 := by fin_cases p <;> rfl

theorem reset_tickets : entries State.reset.tickets = [] := by
  rw [← reset_backupDefaults]
  exact backupDefaults_entries _

theorem reset_tares : entries State.reset.tares = [] := rfl

theorem reset_grades : State.reset.grades.filterMap (·.defn) = [] := rfl

theorem reset_weighing (b : BridgeId) : (State.reset.bridge b).weighing = none := by
  rw [reset_bridge]
  rfl

/-! ### Its laws -/

theorem reset_consolesSound : State.reset.ConsolesSound := fun p => by
  obtain ⟨role, up⟩ := reset_console p
  rw [up]
  exact resetConsole_sound role

theorem reset_tablesSound : State.reset.TablesSound := by
  rw [← reset_backupDefaults]
  exact backupDefaults_tablesSound _

theorem reset_settingsSound : State.reset.SettingsSound := by
  refine State.reset.settingsSound_iff.mpr ⟨fun b => ?_, ?_⟩
  · rw [reset_bridge]
    exact ⟨resetBridge_sound defaultConfig_inRange .clear .clear, fun _ => ⟨rfl, rfl⟩⟩
  · rw [← reset_backupDefaults]
    exact backupDefaults_choicesSound _

theorem reset_numbersSound : State.reset.NumbersSound := by
  rw [← reset_backupDefaults]
  exact backupDefaults_numbersSound _

theorem reset_claimsSound : State.reset.ClaimsSound := by
  refine State.reset.claimsSound_iff.mpr (.of_idle (fun p => ?_) reset_weighing (by simp [reset_tickets]))
  obtain ⟨role, up⟩ := reset_console p
  rw [up]
  rfl

theorem reset_ticketsSound : State.reset.TicketsSound := by
  refine State.reset.ticketsSound_iff.mpr ⟨?_, fun b x pending => ?_⟩
  · rw [← reset_backupDefaults]
    exact recordsSound_backupDefaults _
  · rw [reset_weighing] at pending
    contradiction

theorem reset_gradesSound : State.reset.GradesSound := by
  refine ⟨?_, ?_, by simp [reset_tickets], fun b x g pending => ?_⟩
  · rw [reset_grades]
    exact List.nodup_nil
  · simp [reset_grades]
  · rw [reset_weighing] at pending
    contradiction

theorem reset_taresSound : State.reset.TaresSound := by simp [State.TaresSound, reset_tares]

theorem reset_payoutSound : State.reset.PayoutSound := by
  refine ⟨fun p => ?_, Nat.zero_le _, List.nodup_nil⟩
  rw [reset_till]
  exact ⟨Nat.zero_le _, fun isOpen => nomatch isOpen⟩

theorem reset_printersSound : State.reset.PrintersSound := by
  rw [State.printersSound_iff, ← reset_release, State.release_press]
  exact Press.Sound.release resetPins

theorem reset_journalSound : State.reset.JournalSound := ⟨Nat.zero_le 256, rfl, le_refl 1, Nat.one_le_ofNat⟩

theorem reset_receiptsFit : State.reset.ReceiptsFit := by
  refine State.reset.receiptsFit_iff.mpr ⟨by simp [reset_tickets], fun b x pending => ?_, fun p => ?_, firstDay_inRange, fun p => ?_⟩
  · rw [reset_weighing] at pending
    contradiction
  · rw [reset_till]
    exact closedTill_inRange
  · rw [reset_printer]
    exact ⟨fun _ queued => (nomatch queued), fun _ rendered => (nomatch rendered)⟩

theorem reset_balanced (p : Port) : (State.reset.till p).balanced := by
  rw [reset_till]
  rfl

/-- Settles O51: the tables are empty, the ports and links as a release leaves them, and nothing is started. -/
theorem resetStateIsSound : Obligations.ResetStateIsSound :=
  ⟨reset_consolesSound, reset_tablesSound, reset_settingsSound, State.reset.clockSound_iff.mpr rfl,
    reset_numbersSound, reset_claimsSound, reset_ticketsSound, reset_gradesSound, reset_taresSound,
    reset_payoutSound, reset_printersSound, reset_journalSound, reset_receiptsFit, reset_balanced, rfl⟩

end Sys2Proof.Machine
end

section
/-! PROOFS. The step and the queue of waiting commands (log 2). -/

namespace Sys2Proof.Machine

theorem step_of_empty {s : State} (empty : s.pending = []) : step s = .next s := by
  simp only [step, empty]

theorem step_of_front {c : Instr} {rest : List Instr} {s : State} (front : s.pending = c :: rest) :
    step s = exec c { s with pending := rest } := by
  simp only [step, front]

/-- Settles O1: a queue with `c` in front is taken by `exec c`, and replacing the queue twice leaves its rest. -/
theorem stepTakesTheFrontCommand : Obligations.StepTakesTheFrontCommand :=
  ⟨fun _ _ _ => step_of_front rfl, fun _ => step_of_empty⟩

end Sys2Proof.Machine
end
